-- ==== Sys2Proof/Word.lean ====
section
/-! DEFINITION. The smallest addressable unit of every buffer and of the wire (00_scope.md R7, 20_memory.md R39). -/

namespace Sys2Proof

/-- A byte is 8 bits with unsigned value 0 to 255 (R7). -/
abbrev Byte := BitVec 8

end Sys2Proof
end

