-- ==== Sys2Proof/Config.lean ====
section
/-! DEFINITION. The parameters of the block (00_scope.md R5, R6) and the values the spec leaves unspecified.
An `opaque` constant has no body, so nothing can be proved of its value: a statement that mentions it holds whatever it is. -/

namespace Sys2Proof

/-- The four buffers (10_state.md R15), by name, to number their unspecified contents. -/
inductive Buffer where
  | bm
  | pm
  | blkbuf
  | rxbuf
  deriving DecidableEq, Repr

/-- `HEAD_ROWS` (R5): printhead height in dots. -/
@[simp] abbrev Config.headRows : Nat := 128
/-- `COL_BYTES` (R5): bytes per pixel column in the Pattern buffer. -/
@[simp] abbrev Config.colBytes : Nat := 16
/-- `BLOCK_MAX` (R5): most payload bytes in one Raster block. -/
@[simp] abbrev Config.blockMax : Nat := 60
/-- `BLOCK_HDR` (R5): header bytes of a Raster-block frame. -/
@[simp] abbrev Config.blockHdr : Nat := 4
/-- `PAGE_BYTES` (R5): Pattern bytes per page. -/
@[simp] abbrev Config.pageBytes : Nat := 8192
/-- `TSIZES` (R5): the legal transfer sizes. -/
@[simp] abbrev Config.tsizes : List Nat := [1, 16, 64]
/-- `FRAME_MAX` (R5): most bytes in any frame, and the size of BLKBUF (R32). -/
@[simp] abbrev Config.frameMax : Nat := 64
/-- `RX_MAX` (R5): most bytes one receive returns, and the size of RXBUF (R33). -/
@[simp] abbrev Config.rxMax : Nat := 64
/-- `ACK` (R5). -/
@[simp] abbrev Config.ack : Byte := 0x06
/-- `NAK` (R5, R66): one non-matching response among others; no rule of the block tests for it. -/
@[simp] abbrev Config.nak : Byte := 0x1E

/-- How far `W_MAX` lies above its least value 1: free (R6, D5). -/
opaque Config.wMaxExcess : Nat
/-- How far `H_IN_MAX` lies above its least value 128: free (R6, D5). -/
opaque Config.hInMaxExcess : Nat

/-- `W_MAX`, at least 1 (R6): the largest Bitmap width the block accepts. -/
def Config.wMax : Nat := 1 + Config.wMaxExcess
/-- `H_IN_MAX`, at least 128 (R6): the largest input height the host may present. -/
def Config.hInMax : Nat := 128 + Config.hInMaxExcess

/-- What byte `a` of a buffer holds when nothing has written it since its contents last became unspecified, for the
`epoch`-th time: a free value (R37, 93_implementation_defined.md I1 to I3; log 3, log 9). -/
opaque Config.unspecified (b : Buffer) (epoch a : Nat) : Byte

/-- `TapeOfByte` (R6, R96): the partial map from byte 4 of the Get-mounted-tape response to a tape code. The host applies
it; no rule of the block reads it. -/
opaque Config.tapeOfByte : Byte → Option (BitVec 16)

end Sys2Proof
end

