-- ==== Sys2Proof/Syntax.lean ====
section
/-! DEFINITION. The instructions: the ten host operations (30_encoding.md R59) and the eighteen commands `X.<NAME>`, that is
`XCHG <NAME>` (R70, 41_command_frames.md R82), one constructor for each row of spec/opcode_table.json. -/

namespace Sys2Proof

/-- The ten host operations by name (R59). -/
inductive HostOp where
  | rdcsr
  | send
  | recv
  | xchg
  | setgeom
  | wrbm
  | rdbm
  | xpose
  | rdpm
  | rxfer
  deriving DecidableEq, Repr

/-- The eighteen commands of the command table, in its order, so that the position is the index `k` (R82). -/
inductive Cmd where
  | status
  | reset
  | cut
  | halfcut
  | feed
  | cancel
  | prejob1
  | prejob2
  | speed
  | tapechk
  | margin
  | density
  | cutter
  | gettape
  | prefeed
  | rasterend
  | printpage
  | rasterblk
  deriving DecidableEq, Repr

/-- An instruction. Operands are naturals and byte strings, as the host-operation record has them (R58, R59). -/
inductive Instr where
  /-- `RDCSR n` (R130). -/
  | rdcsr (n : Nat)
  /-- `SEND t, payload` (R73). -/
  | send (t : Nat) (payload : List Byte)
  /-- `RECV` (R75). -/
  | recv
  /-- `XCHG k, params` (R81). -/
  | xchg (k : Nat) (params : List Byte)
  /-- `SETGEOM w, h` (R104). -/
  | setgeom (w h : Nat)
  /-- `WRBM a, v` (R105). -/
  | wrbm (a : Nat) (v : Byte)
  /-- `RDBM a` (R106). -/
  | rdbm (a : Nat)
  /-- `XPOSE` (R108). -/
  | xpose
  /-- `RDPM a` (R112). -/
  | rdpm (a : Nat)
  /-- `RXFER` (R119). -/
  | rxfer
  /-- `XCHG STATUS` (R83). -/
  | xchgStatus
  /-- `XCHG RESET` (R84): resets the printer, not the block. -/
  | xchgReset
  /-- `XCHG CUT` (R85). -/
  | xchgCut
  /-- `XCHG HALFCUT` (R86). -/
  | xchgHalfcut
  /-- `XCHG FEED` (R87). -/
  | xchgFeed
  /-- `XCHG CANCEL` (R88). -/
  | xchgCancel
  /-- `XCHG PREJOB1` (R89). -/
  | xchgPrejob1
  /-- `XCHG PREJOB2` (R90). -/
  | xchgPrejob2
  /-- `XCHG SPEED` (R91). -/
  | xchgSpeed
  /-- `XCHG TAPECHK, tapeHi, tapeLo` (R92). -/
  | xchgTapechk (tapeHi tapeLo : Byte)
  /-- `XCHG MARGIN, marginByte` (R93). -/
  | xchgMargin (marginByte : Byte)
  /-- `XCHG DENSITY, densityByte` (R94). -/
  | xchgDensity (densityByte : Byte)
  /-- `XCHG CUTTER, cutterByte` (R95). -/
  | xchgCutter (cutterByte : Byte)
  /-- `XCHG GETTAPE` (R96). -/
  | xchgGettape
  /-- `XCHG PREFEED, amount` (R97). -/
  | xchgPrefeed (amount : Byte)
  /-- `XCHG RASTEREND` (R98). -/
  | xchgRasterend
  /-- `XCHG PRINTPAGE` (R99). -/
  | xchgPrintpage
  /-- `XCHG RASTERBLK, payload` (R100). -/
  | xchgRasterblk (payload : List Byte)
  deriving DecidableEq, Repr

/-- The two levels of encoding (R57): a host-operation record, or a command given by its wire frame. -/
inductive Level where
  | hop
  | frame
  deriving DecidableEq, Repr

/-- An encoded operation: its level and its bytes, first byte first. -/
structure Request where
  level : Level
  bytes : List Byte
  deriving DecidableEq, Repr

end Sys2Proof
end

