-- ==== Sys2Proof/Machine/State.lean ====
section
/-! DEFINITION. The state of the block (10_state.md R15), the block's results (60_exceptions.md R132), the link's answers
(20_memory.md R54), what the host does, and the state right after reset (R37). Plain data throughout. -/

namespace Sys2Proof.Machine

/-- A buffer: (address, byte) pairs. Canonical form: addresses strictly rising. An unlisted address holds no value here,
so no entry can equal what an unlisted address reads as; reading one is a free value (Machine/Ops.lean). -/
abbrev Mem := List Host.Cell

/-- The canonical form of a buffer. -/
abbrev Mem.wf (m : Mem) : Prop := (m.map Prod.fst).Pairwise (· < ·)

/-- An answer of the link to `LinkTx` (R54). `silent`: it never answers (R145). -/
inductive TxAnswer where
  | done (n : Nat)
  | error
  | silent
  deriving DecidableEq, Repr

/-- An answer of the link to `LinkRx` (R54). `silent`: it never answers (R145). -/
inductive RxAnswer where
  | data (b : List Byte)
  | error
  | silent
  deriving DecidableEq, Repr

/-- One entry of the trace (R12): a packet with its answer, or the answer to a receive. -/
inductive LinkEvent where
  | tx (packet : List Byte) (answer : TxAnswer)
  | rx (answer : RxAnswer)
  deriving DecidableEq, Repr

/-- The reasons of a refused operation (R11, R136 to R141). -/
inductive Reason where
  | size
  | geom
  | addr
  | notready
  | illegal
  | dead
  deriving DecidableEq, Repr

/-- The data a successful operation returns (R59, column "data returned"). -/
inductive Data where
  | none
  | num (n : Nat)
  | byte (v : Byte)
  | bytes (b : List Byte)
  deriving DecidableEq, Repr

/-- The result of an operation (R11, R132). -/
inductive Result where
  | ok (d : Data)
  | mismatch (b : List Byte)
  | fatal
  | refused (r : Reason)
  deriving DecidableEq, Repr

/-- The link call that the link has not answered (R145). -/
inductive Wait where
  | tx (packet : List Byte)
  | rx
  deriving DecidableEq, Repr

/-- What the host does next: start an operation (R58); assert the reset input (R155); or start an operation and assert
the reset input in the middle of it, between two of its exchange steps (R155, R176; log 11). -/
inductive HostInput where
  | op (r : Request)
  | reset
  | opReset (r : Request) (exchanges : Nat)
  deriving DecidableEq, Repr

/-- The reasons the machine stops with a fault: none. Every event the spec describes is a result of an operation (R11,
R132), after which the block goes on or waits for reset. -/
inductive Fault where
  deriving DecidableEq, Repr

/-- The reasons an input has no meaning. -/
inductive Refusal where
  /-- An instruction that has no meaning yet; raised by an arm of `exec` only. Safe: the machine stops. -/
  | notModelled (mnemonic : String)
  /-- The host's bytes carry no operation under the model's operand carriage (HOSTBUS is open, R57, D1; log 1), or are no
  wire frame of the command table; raised by `step`. Safe: the machine stops. -/
  | undecodable
  deriving DecidableEq, Repr

/-- The state. The first fifteen fields are the block's (R15); the others are the model's (result and waiting: what the
host sees of an operation; host, txAnswers, rxAnswers: the inputs still to come; trace: R12; epoch, imageEpoch: when the
unwritten bytes became unspecified). -/
structure State where
  /-- `W` (R18). -/
  w : Nat
  /-- `HIN` (R19). -/
  hin : Nat
  /-- `H` (R20). -/
  h : Nat
  /-- `PADTOP` (R21). -/
  padtop : Nat
  /-- `STRIDE` (R22). -/
  stride : Nat
  /-- `N` (R23). -/
  n : Nat
  /-- `POS` (R24). -/
  pos : Nat
  /-- `BLKLEN` (R25). -/
  blklen : Nat
  /-- `PAGECNT` (R26). -/
  pagecnt : Nat
  /-- `RXLEN` (R27). -/
  rxlen : Nat
  /-- `STATUS` (R28): bit 0 PVALID, bit 1 TRUNC, bit 2 FATAL. -/
  status : BitVec 3
  /-- `BM` (R30). -/
  bm : Mem
  /-- `PM` (R31). -/
  pm : Mem
  /-- `BLKBUF` (R32). -/
  blkbuf : Mem
  /-- `RXBUF` (R33). -/
  rxbuf : Mem
  /-- The result of the last operation; none after reset and while an operation hangs (R11, R145, R155). -/
  result : Option Result
  /-- The unanswered link call of a hanging operation (R145). -/
  waiting : Option Wait
  /-- What the host still does, in order (R10). -/
  host : List HostInput
  /-- The link's answers to the sends to come; after the last the link never answers (R54). -/
  txAnswers : List TxAnswer
  /-- The link's answers to the receives to come; after the last the link never answers (R54). -/
  rxAnswers : List RxAnswer
  /-- The link calls made so far, oldest first (R12). -/
  trace : List LinkEvent
  /-- How many times BLKBUF and RXBUF became unspecified: once for each reset (R37, log 3). -/
  epoch : Nat
  /-- How many times BM and PM became unspecified: for each reset (R37) and each accepted SETGEOM (I2, I3, log 9). -/
  imageEpoch : Nat
  deriving DecidableEq, Repr

/-- The state right after reset (R37, R156): every register and flag 0, the buffers unspecified (nothing listed). -/
def State.reset : State where
  w := 0
  hin := 0
  h := 0
  padtop := 0
  stride := 0
  n := 0
  pos := 0
  blklen := 0
  pagecnt := 0
  rxlen := 0
  status := 0
  bm := []
  pm := []
  blkbuf := []
  rxbuf := []
  result := none
  waiting := none
  host := []
  txAnswers := []
  rxAnswers := []
  trace := []
  epoch := 0
  imageEpoch := 0

end Sys2Proof.Machine
end

