-- ==== Sys2Proof/Machine/Flags.lean ====
section
/-! DEFINITION. The flags of `STATUS` (10_state.md R28): PVALID bit 0, TRUNC bit 1, FATAL bit 2. No operation computes any
other flag: the block has no condition codes (R28). -/

namespace Sys2Proof.Machine

/-- `STATUS` with bit `k` given the value `v`, the other bits as they were. -/
def putFlag (k : Nat) (v : Bool) (f : BitVec 3) : BitVec 3 :=
  if v then f ||| (1#3 <<< k) else f &&& ~~~(1#3 <<< k)

/-- `STATUS.PVALID`: PM holds the Pattern buffer of a Bitmap of the current geometry. -/
def State.pvalid (s : State) : Bool := s.status.getLsbD 0

/-- `STATUS.TRUNC`: the last encoding dropped rows (R135). -/
def State.trunc (s : State) : Bool := s.status.getLsbD 1

/-- `STATUS.FATAL`: the link failed and the block is dead (R133, R141). -/
def State.fatal (s : State) : Bool := s.status.getLsbD 2

/-- `STATUS` after XPOSE of an image of height `hin` (R108, R110): PVALID set, TRUNC set or cleared. -/
def statusXposed (hin : Nat) (f : BitVec 3) : BitVec 3 :=
  putFlag 0 true (putFlag 1 (decide (128 < hin)) f)

/-- `STATUS` after an accepted SETGEOM (R104): PVALID and TRUNC cleared. -/
def statusNewGeometry (f : BitVec 3) : BitVec 3 := putFlag 1 false (putFlag 0 false f)

/-- `STATUS` after a transport fault (R133): FATAL set. -/
def statusFault (f : BitVec 3) : BitVec 3 := putFlag 2 true f

end Sys2Proof.Machine
end

