-- ==== Sys2Proof/WellFormed.lean ====
section
/-! DEFINITION. Which instructions the host interface can carry: the operand ranges of 30_encoding.md R59 and the
parameter range of a Raster block (41_command_frames.md R100). An operand in range may still be one its operation refuses. -/

namespace Sys2Proof

/-- The most a one-byte operand field carries (R59: "0 to 255"). -/
@[simp] abbrev operandMax : Nat := 255

/-- Every operand lies in the range the table of R59 shows; a wire frame has room for at most 60 raster bytes (R100). -/
def Instr.wellFormed : Instr → Bool
  | .rdcsr n => decide (n ≤ operandMax)
  | .send t payload => decide (t ≤ operandMax) && decide (payload.length ≤ operandMax)
  | .xchg k params => decide (k ≤ operandMax) && decide (params.length ≤ operandMax)
  | .xchgRasterblk payload => decide (payload.length ≤ 60)
  | .recv | .setgeom _ _ | .wrbm _ _ | .rdbm _ | .xpose | .rdpm _ | .rxfer => true
  | .xchgStatus | .xchgReset | .xchgCut | .xchgHalfcut | .xchgFeed | .xchgCancel => true
  | .xchgPrejob1 | .xchgPrejob2 | .xchgSpeed | .xchgTapechk _ _ | .xchgMargin _ => true
  | .xchgDensity _ | .xchgCutter _ | .xchgGettape | .xchgPrefeed _ => true
  | .xchgRasterend | .xchgPrintpage => true

/-- The instruction's operands are in range. -/
abbrev WellFormed (i : Instr) : Prop := i.wellFormed = true

end Sys2Proof
end

