-- ==== Sys2Proof/Decode.lean ====
section
/-! DEFINITION. Encodings. The wire frames are the spec's (30_encoding.md R60 to R66, 41_command_frames.md R82). The
operation-select codes are the spec's (R59); how operands travel after the code is open (HOSTBUS, D1), and the carriage here
is the model's own (DESIGN CHOICE, log 1): a one-byte operand is one byte, a byte string is a length byte and its bytes, a
natural number is base-128 digits, least first, each but the last with bit 7 set. -/

namespace Sys2Proof

/-- Why bytes carry no instruction. -/
inductive DecodeError where
  /-- A host-operation record without an operation-select byte. -/
  | emptyRecord
  /-- The operation-select code is not in the map of R59 (R67). -/
  | illegalOpsel (opsel : Byte)
  /-- The record ends before its operands do (carriage, log 1). -/
  | truncatedRecord
  /-- Bytes are left after the operands (carriage, log 1). -/
  | trailingBytes
  /-- No command has this packet length and these opcode bytes (R65). -/
  | unknownFrame
  /-- The opcode is a command's and the other bytes are not its template's (R82). -/
  | badFrame
  deriving DecidableEq, Repr

/-- `zeros(n)` (R9). -/
def zeros (n : Nat) : List Byte := List.replicate n 0

/-- `Pad(payload, t)` (40_frame_formatter.md R71). -/
def pad (payload : List Byte) (t : Nat) : List Byte := payload ++ zeros (t - payload.length)

/-! ### Commands -/

/-- The commands in the order of the table, so that the position is `k` (R82). -/
def Cmd.all : List Cmd :=
  [.status, .reset, .cut, .halfcut, .feed, .cancel, .prejob1, .prejob2, .speed] ++
  [.tapechk, .margin, .density, .cutter, .gettape, .prefeed, .rasterend, .printpage, .rasterblk]

/-- The command with index `k`, when `k ≤ 17` (R81, R82). -/
def Cmd.ofIndex (k : Nat) : Option Cmd := Cmd.all[k]?

/-- `Template(k, params)` (R82): the payload with the parameter bytes in their places. -/
def Cmd.template (c : Cmd) (params : List Byte) : List Byte :=
  match c with
  | .status => [0x02, 0x1D]
  | .reset => [0x02, 0x01]
  | .cut => [0x08]
  | .halfcut => [0x09]
  | .feed => [0x0A]
  | .cancel => [0x18]
  | .prejob1 => [0x02, 0x02, 0x04, 0x00, 0x00, 0x09, 0x09, 0x01]
  | .prejob2 => [0x02, 0x82]
  | .speed => [0x02, 0x1C, 0x01, 0x00, 0x00]
  | .tapechk => [0x02, 0x17, 0x02, 0x00, 0x00] ++ params
  | .margin => [0x02, 0x0D, 0x01, 0x00] ++ params
  | .density => [0x02, 0x09, 0x06, 0x00, 0x00, 0x00, 0x01, 0x00] ++ params ++ [0x00]
  | .cutter => [0x02, 0x19, 0x01, 0x00] ++ params
  | .gettape => [0x02, 0x1A]
  | .prefeed => [0x02, 0x1B, 0x01, 0x00] ++ params
  | .rasterend => [0x02, 0x04]
  | .printpage => [0x0C]
  | .rasterblk => [0x02, 0xFE, BitVec.ofNat 8 params.length, 0x00] ++ params

/-- `tsize(k)` (R82): the transfer size. -/
def Cmd.tsize : Cmd → Nat
  | .cut | .halfcut | .feed | .cancel | .printpage => 1
  | .status | .reset | .prejob1 | .prejob2 | .speed | .tapechk | .margin => 16
  | .density | .cutter | .gettape | .prefeed | .rasterend => 16
  | .rasterblk => 64

/-- `ParamsOK(k, n)` (R82): the number of parameter bytes the template takes. -/
def Cmd.paramsOk (c : Cmd) (n : Nat) : Bool :=
  match c with
  | .tapechk => n == 2
  | .margin | .density | .cutter | .prefeed => n == 1
  | .rasterblk => decide (n ≤ 60)
  | .status | .reset | .cut | .halfcut | .feed | .cancel | .prejob1 | .prejob2 => n == 0
  | .speed | .gettape | .rasterend | .printpage => n == 0

/-- The whole packet on the wire (R60): the template padded to the transfer size. -/
def Cmd.packet (c : Cmd) (params : List Byte) : List Byte := pad (c.template params) c.tsize

/-- The opcode bytes the map of R65 selects by: byte 0 of a W1 packet, bytes 0 and 1 of the others. -/
def Cmd.opcode : Cmd → List Byte
  | .cut => [0x08]
  | .halfcut => [0x09]
  | .feed => [0x0A]
  | .printpage => [0x0C]
  | .cancel => [0x18]
  | .reset => [0x02, 0x01]
  | .prejob1 => [0x02, 0x02]
  | .rasterend => [0x02, 0x04]
  | .density => [0x02, 0x09]
  | .margin => [0x02, 0x0D]
  | .tapechk => [0x02, 0x17]
  | .cutter => [0x02, 0x19]
  | .gettape => [0x02, 0x1A]
  | .prefeed => [0x02, 0x1B]
  | .speed => [0x02, 0x1C]
  | .status => [0x02, 0x1D]
  | .prejob2 => [0x02, 0x82]
  | .rasterblk => [0x02, 0xFE]

/-- The opcode map (R65): the packet's length first, then its opcode bytes. -/
def Cmd.ofPacket (p : List Byte) : Option Cmd :=
  Cmd.all.find? fun c => p.length == c.tsize && c.opcode.isPrefixOf p

/-- The parameter bytes at their places in a packet (R64, R82, R92 to R95, R97, R100). -/
def Cmd.paramsOf (c : Cmd) (p : List Byte) : List Byte :=
  match c with
  | .tapechk => (p.drop 5).take 2
  | .margin | .cutter | .prefeed => (p.drop 4).take 1
  | .density => (p.drop 8).take 1
  | .rasterblk => (p.drop 4).take (p.getD 2 0).toNat
  | .status | .reset | .cut | .halfcut | .feed | .cancel | .prejob1 | .prejob2 => []
  | .speed | .gettape | .rasterend | .printpage => []

/-- A command without parameters; none when there are some. -/
def noParams (i : Instr) : List Byte → Option Instr
  | [] => some i
  | _ :: _ => none

/-- A command with one parameter byte; none for another number. -/
def oneParam (f : Byte → Instr) : List Byte → Option Instr
  | [a] => some (f a)
  | [] | _ :: _ :: _ => none

/-- A command with two parameter bytes; none for another number. -/
def twoParams (f : Byte → Byte → Instr) : List Byte → Option Instr
  | [a, b] => some (f a b)
  | [] | [_] | _ :: _ :: _ :: _ => none

/-- The instruction that is command `c` with these parameter bytes; none when their number is wrong (R82). -/
def Cmd.toInstr (c : Cmd) (params : List Byte) : Option Instr :=
  match c with
  | .status => noParams .xchgStatus params
  | .reset => noParams .xchgReset params
  | .cut => noParams .xchgCut params
  | .halfcut => noParams .xchgHalfcut params
  | .feed => noParams .xchgFeed params
  | .cancel => noParams .xchgCancel params
  | .prejob1 => noParams .xchgPrejob1 params
  | .prejob2 => noParams .xchgPrejob2 params
  | .speed => noParams .xchgSpeed params
  | .tapechk => twoParams .xchgTapechk params
  | .margin => oneParam .xchgMargin params
  | .density => oneParam .xchgDensity params
  | .cutter => oneParam .xchgCutter params
  | .gettape => noParams .xchgGettape params
  | .prefeed => oneParam .xchgPrefeed params
  | .rasterend => noParams .xchgRasterend params
  | .printpage => noParams .xchgPrintpage params
  | .rasterblk => if params.length ≤ 60 then some (.xchgRasterblk params) else none

/-- Decoding a wire frame: the opcode map (R65), then every constant and padding byte as the template has it (R82). -/
def decodeFrame (p : List Byte) : Except DecodeError Instr :=
  match Cmd.ofPacket p with
  | none => .error .unknownFrame
  | some c =>
    match c.toInstr (c.paramsOf p) with
    | none => .error .badFrame
    | some i => if p = c.packet (c.paramsOf p) then .ok i else .error .badFrame

/-! ### Host-operation records -/

/-- The operation-select map (R59). -/
def HostOp.opsel : HostOp → Byte
  | .rdcsr => 0x01
  | .send => 0x10
  | .recv => 0x11
  | .xchg => 0x12
  | .setgeom => 0x20
  | .wrbm => 0x21
  | .rdbm => 0x22
  | .xpose => 0x23
  | .rdpm => 0x24
  | .rxfer => 0x30

/-- The operations of the map (R59). -/
def HostOp.all : List HostOp :=
  [.rdcsr, .send, .recv, .xchg, .setgeom, .wrbm, .rdbm, .xpose, .rdpm, .rxfer]

/-- The operation a code selects; none for a code outside the map, which is illegal (R67). -/
def HostOp.ofOpsel (b : Byte) : Option HostOp := HostOp.all.find? fun o => o.opsel == b

/-- A one-byte operand and the bytes after it. -/
def takeByte : List Byte → Option (Byte × List Byte)
  | [] => none
  | b :: bs => some (b, bs)

/-- A natural-number operand and the bytes after it (carriage, log 1). -/
def takeNat : List Byte → Option (Nat × List Byte)
  | [] => none
  | b :: bs =>
    if b.toNat < 128 then some (b.toNat, bs)
    else (takeNat bs).map fun r => (b.toNat - 128 + 128 * r.1, r.2)

/-- A byte-string operand and the bytes after it (carriage, log 1). -/
def takeString : List Byte → Option (List Byte × List Byte)
  | [] => none
  | b :: bs => if b.toNat ≤ bs.length then some (bs.take b.toNat, bs.drop b.toNat) else none

/-- The operands of an operation (R59) and the bytes after them; none when the bytes end too early. -/
def takeOperands (op : HostOp) (bs : List Byte) : Option (Instr × List Byte) :=
  match op with
  | .rdcsr => (takeByte bs).map fun r => (.rdcsr r.1.toNat, r.2)
  | .send => (takeByte bs).bind fun r => (takeString r.2).map fun q => (.send r.1.toNat q.1, q.2)
  | .recv => some (.recv, bs)
  | .xchg => (takeByte bs).bind fun r => (takeString r.2).map fun q => (.xchg r.1.toNat q.1, q.2)
  | .setgeom => (takeNat bs).bind fun r => (takeNat r.2).map fun q => (.setgeom r.1 q.1, q.2)
  | .wrbm => (takeNat bs).bind fun r => (takeByte r.2).map fun q => (.wrbm r.1 q.1, q.2)
  | .rdbm => (takeNat bs).map fun r => (.rdbm r.1, r.2)
  | .xpose => some (.xpose, bs)
  | .rdpm => (takeNat bs).map fun r => (.rdpm r.1, r.2)
  | .rxfer => some (.rxfer, bs)

/-- Decoding the head of a byte string as one host operation, with the bytes left over. -/
def decodeHopHead : List Byte → Except DecodeError (Instr × List Byte)
  | [] => .error .emptyRecord
  | b :: bs =>
    match HostOp.ofOpsel b with
    | none => .error (.illegalOpsel b)
    | some op =>
      match takeOperands op bs with
      | none => .error .truncatedRecord
      | some r => .ok r

/-- Decoding a host-operation record: one operation, nothing left over. -/
def decodeHop (bs : List Byte) : Except DecodeError Instr :=
  match decodeHopHead bs with
  | .error e => .error e
  | .ok (i, []) => .ok i
  | .ok (_, _ :: _) => .error .trailingBytes

/-- Decoding, total on any bytes of either level (R57). -/
def decode (r : Request) : Except DecodeError Instr :=
  match r.level with
  | .hop => decodeHop r.bytes
  | .frame => decodeFrame r.bytes

/-! ### Encoding -/

/-- Base-128 digits of `n`, least first; `fuel` bounds their number and `n` itself is always enough. -/
def natDigits : Nat → Nat → List Byte
  | 0, n => [BitVec.ofNat 8 n]
  | fuel + 1, n =>
    if n < 128 then [BitVec.ofNat 8 n]
    else BitVec.ofNat 8 (128 + n % 128) :: natDigits fuel (n / 128)

/-- A natural-number operand (carriage, log 1). -/
def putNat (n : Nat) : List Byte := natDigits n n

/-- A byte-string operand (carriage, log 1). -/
def putString (b : List Byte) : List Byte := BitVec.ofNat 8 b.length :: b

/-- A host-operation record: the code of R59 and the operand bytes. -/
def hopRequest (op : HostOp) (operands : List Byte) : Request := ⟨.hop, op.opsel :: operands⟩

/-- A command by its wire frame (R60, R70). -/
def frameRequest (c : Cmd) (params : List Byte) : Request := ⟨.frame, c.packet params⟩

/-- The encoding of an instruction. -/
def encode : Instr → Request
  | .rdcsr n => hopRequest .rdcsr [BitVec.ofNat 8 n]
  | .send t payload => hopRequest .send (BitVec.ofNat 8 t :: putString payload)
  | .recv => hopRequest .recv []
  | .xchg k params => hopRequest .xchg (BitVec.ofNat 8 k :: putString params)
  | .setgeom w h => hopRequest .setgeom (putNat w ++ putNat h)
  | .wrbm a v => hopRequest .wrbm (putNat a ++ [v])
  | .rdbm a => hopRequest .rdbm (putNat a)
  | .xpose => hopRequest .xpose []
  | .rdpm a => hopRequest .rdpm (putNat a)
  | .rxfer => hopRequest .rxfer []
  | .xchgStatus => frameRequest .status []
  | .xchgReset => frameRequest .reset []
  | .xchgCut => frameRequest .cut []
  | .xchgHalfcut => frameRequest .halfcut []
  | .xchgFeed => frameRequest .feed []
  | .xchgCancel => frameRequest .cancel []
  | .xchgPrejob1 => frameRequest .prejob1 []
  | .xchgPrejob2 => frameRequest .prejob2 []
  | .xchgSpeed => frameRequest .speed []
  | .xchgTapechk hi lo => frameRequest .tapechk [hi, lo]
  | .xchgMargin m => frameRequest .margin [m]
  | .xchgDensity d => frameRequest .density [d]
  | .xchgCutter c => frameRequest .cutter [c]
  | .xchgGettape => frameRequest .gettape []
  | .xchgPrefeed a => frameRequest .prefeed [a]
  | .xchgRasterend => frameRequest .rasterend []
  | .xchgPrintpage => frameRequest .printpage []
  | .xchgRasterblk payload => frameRequest .rasterblk payload

/-! ### Words of the opcode table -/

/-- The first `count` bytes of a word of `nbits` bits, bit 0 the least significant bit of the first byte. -/
def wordBytes (nbits w count : Nat) : List Byte :=
  (List.range count).map fun j => BitVec.ofNat 8 (w % 2 ^ nbits / 256 ^ j)

/-- How many bytes the packet that begins so has (R65, R68): 64 for `02 FE`, 16 for any other `02`, else 1. -/
def frameLength (b0 b1 : Byte) : Nat :=
  if b0 = 0x02 then (if b1 = 0xFE then 64 else 16) else 1

/-- The request whose bits are `w` in the opcode table's numbering, every bit above `nbits` zero. A first byte of the
operation-select map starts a host record; any other starts a wire frame. -/
def requestOfWord (nbits w : Nat) : Request :=
  let head := wordBytes nbits w (nbits / 8 + 2)
  match decodeHopHead head with
  | .ok (_, rest) => ⟨.hop, head.take (head.length - rest.length)⟩
  | .error _ => ⟨.frame, wordBytes nbits w (frameLength (head.getD 0 0) (head.getD 1 0))⟩

/-- The instruction the decoder reads from a word of the opcode table. -/
def decodeTableWord (nbits w : Nat) : Option Instr := (decode (requestOfWord nbits w)).toOption

end Sys2Proof
end

