-- ==== Sys2Proof/Machine/Operands.lean ====
section
/-! DEFINITION. Operand forms and the pure functions of the rules: bits of a byte (00_scope.md R7), the size contract and
the response predicates (40_frame_formatter.md R72, R77), the expected responses of the command table
(41_command_frames.md R82), the tape codes (R101), the geometry formulae (10_state.md R20 to R23) and the CSR numbers (R29). -/

namespace Sys2Proof.Machine

/-! ### Bits of a byte -/

/-- `mbit(v, k)` (R7): the bit of MSB-index `k`, weight `2^(7-k)`. -/
def mbit (v : Byte) (k : Nat) : Bool := v.getMsbD k

/-- `mset(v, k)` (R7). -/
def mset (v : Byte) (k : Nat) : Byte := v ||| (0x80#8 >>> k)

/-- The byte whose bit of MSB-index `k` is `f k`, made by `mset` from 0. -/
def byteOfBits (f : Nat → Bool) : Byte :=
  (List.range 8).foldl (fun v k => if f k then mset v k else v) 0

/-! ### The size contract and the responses -/

/-- `SizeOK(p, t)` (R72). -/
def sizeOk (p t : Nat) : Bool := Config.tsizes.contains t && decide (p ≤ t)

/-- The kinds of expected response (R77). -/
inductive Expect where
  | ack
  | exact (q : List Byte)
  | len (m : Nat)
  | none
  deriving DecidableEq, Repr

/-- `Match(e, b)` (R77). Of `NONE` the rule says "not evaluated": `exchange` never asks. -/
def responseMatches (e : Expect) (b : List Byte) : Bool :=
  match e with
  | .ack => b == [Config.ack]
  | .exact q => b == q
  | .len m => b.length == m
  | .none => true

/-- `expect(k)` (R82). -/
def cmdExpect : Cmd → Expect
  | .status => .exact [0x02, 0x80, 0x02, 0x00, 0x00, 0xA6]
  | .prejob2 => .exact [0x02, 0x80, 0x01, 0x00, 0x01]
  | .gettape => .len 5
  | .cancel => .none
  | .reset | .cut | .halfcut | .feed | .prejob1 | .speed | .tapechk | .margin | .density => .ack
  | .cutter | .prefeed | .rasterend | .printpage | .rasterblk => .ack

/-! ### Tape codes -/

/-- The tapes of R101. -/
inductive Tape where
  | mm6
  | mm9
  | mm12
  | mm18
  | mm24
  | none
  deriving DecidableEq, Repr

/-- The 16-bit tape code (R101). -/
def tapeCode : Tape → BitVec 16
  | .mm6 => 0x8100
  | .mm9 => 0x8500
  | .mm12 => 0x8303
  | .mm18 => 0x8703
  | .mm24 => 0x8603
  | .none => 0x0000

/-- The high byte of a code, at offset 5 of the Tape-check frame (R44, R64). -/
def tapeHi (c : BitVec 16) : Byte := BitVec.ofNat 8 (c.toNat / 256)

/-- The low byte of a code, at offset 6 of the Tape-check frame (R44, R64). -/
def tapeLo (c : BitVec 16) : Byte := BitVec.ofNat 8 (c.toNat % 256)

/-- The Tape-check operation for a tape (R64, R92, R101). -/
def tapeCheck (t : Tape) : Instr := .xchgTapechk (tapeHi (tapeCode t)) (tapeLo (tapeCode t))

/-- The tape code the host reads from a Get-mounted-tape response (R96): byte 4 through `TapeOfByte`, and "no tape" for a
byte outside its domain. No operation of the block uses it. -/
def mountedTape (response : List Byte) : BitVec 16 :=
  (Config.tapeOfByte (response.getD 4 0)).getD (tapeCode .none)

/-! ### Geometry -/

/-- `H = min(HIN, 128)` (R20). -/
def geomH (hin : Nat) : Nat := min hin Config.headRows

/-- `PADTOP = (128 - H) / 2` (R21). -/
def geomPadtop (hin : Nat) : Nat := (Config.headRows - geomH hin) / 2

/-- `STRIDE = ceil(W / 8)` (R22). -/
def geomStride (w : Nat) : Nat := (w + 7) / 8

/-- `N = 16 * W` (R23). -/
def geomN (w : Nat) : Nat := Config.colBytes * w

/-- The geometry SETGEOM accepts (R104). -/
def geomOk (w h : Nat) : Bool :=
  decide (0 < w) && decide (0 < h) && decide (w ≤ Config.wMax) && decide (h ≤ Config.hInMax)

/-! ### Results and registers -/

/-- The 4-bit result code (60_exceptions.md R132). -/
def resultCode : Result → BitVec 4
  | .ok _ => 0x0
  | .mismatch _ => 0x1
  | .fatal => 0x2
  | .refused .size => 0x8
  | .refused .geom => 0x9
  | .refused .addr => 0xA
  | .refused .notready => 0xB
  | .refused .illegal => 0xC
  | .refused .dead => 0xD

/-- The value of CSR `n` (R29); none for the reserved numbers 11 to 255. -/
def csrValue (s : State) (n : Nat) : Option Nat :=
  match n with
  | 0 => some s.status.toNat
  | 1 => some s.w
  | 2 => some s.hin
  | 3 => some s.h
  | 4 => some s.padtop
  | 5 => some s.stride
  | 6 => some s.n
  | 7 => some s.pos
  | 8 => some s.blklen
  | 9 => some s.pagecnt
  | 10 => some s.rxlen
  | _ => none

end Sys2Proof.Machine
end

