-- ==== Sys2Proof/Machine/Ops.lean ====
section
/-! DEFINITION. The named operations the meanings are made of: buffers, results, the transport fault (the nearest thing to
taking an exception, 60_exceptions.md R144) and reset (the only way back from it, R146, 70_reset_and_hazards.md R155), the
link's primitives (20_memory.md R54, 40_frame_formatter.md R74, R76, R78), and the host's input. -/

namespace Sys2Proof.Machine

/-! ### Buffers -/

/-- What a buffer lists at an address. -/
def Mem.peek (m : Mem) (a : Nat) : Option Byte :=
  match m with
  | [] => none
  | (b, v) :: rest => if b = a then some v else Mem.peek rest a

/-- `X[a] <- v` (R9), keeping the addresses rising. -/
def Mem.poke (m : Mem) (a : Nat) (v : Byte) : Mem :=
  match m with
  | [] => [(a, v)]
  | (b, u) :: rest =>
    if a < b then (a, v) :: (b, u) :: rest
    else if b = a then (a, v) :: rest
    else (b, u) :: Mem.poke rest a v

/-- `X[a .. a + len(bs)) <- bs` (R9). -/
def Mem.pokeAll (m : Mem) (a : Nat) (bs : List Byte) : Mem :=
  match bs with
  | [] => m
  | b :: rest => Mem.pokeAll (m.poke a b) (a + 1) rest

/-- Byte `a` of a buffer: what is listed, else the free value of an unwritten byte (R37, I1 to I3; log 3). -/
def Mem.read (m : Mem) (b : Buffer) (epoch a : Nat) : Byte := (m.peek a).getD (Config.unspecified b epoch a)

/-- `BM[a]` (R39). -/
def State.bmByte (s : State) (a : Nat) : Byte := s.bm.read .bm s.imageEpoch a

/-- `PM[a]` (R39). -/
def State.pmByte (s : State) (a : Nat) : Byte := s.pm.read .pm s.imageEpoch a

/-- `BLKBUF[a]` (R39). -/
def State.blkByte (s : State) (a : Nat) : Byte := s.blkbuf.read .blkbuf s.epoch a

/-- `RXBUF[a]` (R39). -/
def State.rxByte (s : State) (a : Nat) : Byte := s.rxbuf.read .rxbuf s.epoch a

/-- `PM[a .. a + len)` (R9). -/
def State.pmBytes (s : State) (a len : Nat) : List Byte := (List.range len).map fun i => s.pmByte (a + i)

/-- `BLKBUF[0 .. len)` (R9). -/
def State.blkBytes (s : State) (len : Nat) : List Byte := (List.range len).map s.blkByte

/-- `RXBUF[0 .. RXLEN)` (R76). -/
def State.rxBytes (s : State) : List Byte := (List.range s.rxlen).map s.rxByte

/-- `BM[a] <- v` (R105). -/
def State.writeBm (s : State) (a : Nat) (v : Byte) : State := { s with bm := s.bm.poke a v }

/-- `PM[0 .. len(bs)) <- bs` (R108). -/
def State.writePm (s : State) (bs : List Byte) : State := { s with pm := s.pm.pokeAll 0 bs }

/-! ### Results -/

/-- The operation ends with this result (R11). -/
def State.finish (s : State) (r : Result) : State := { s with result := some r }

/-- `return OK(d)` (R9). -/
def State.ok (s : State) (d : Data) : State := s.finish (.ok d)

/-- `refuse <reason>` (R9): nothing changes but the result (R131). -/
def State.refuse (s : State) (r : Reason) : State := s.finish (.refused r)

/-- The transport fault (R133, R144): FATAL is set, the operation ends with `FATAL`, everything else keeps its value. -/
def State.transportFault (s : State) : State :=
  { s with status := statusFault s.status, result := some .fatal }

/-- The hang (R145): the operation has no result and waits for the link for ever. -/
def State.stall (s : State) (w : Wait) : State := { s with waiting := some w, result := none }

/-- The dead check every operation but RDCSR begins with (R131, R141). -/
def State.unlessDead (s : State) (op : State → State) : State := if s.fatal then s.refuse .dead else op s

/-! ### The geometry and the chunker's registers -/

/-- What an accepted SETGEOM does (R104): it writes the registers and flags. It writes no byte of BM or PM, but a byte
that nothing writes afterwards may hold any value (R167, I2, I3): both buffers become unspecified anew (log 9). -/
def State.setGeometry (s : State) (w h : Nat) : State :=
  { s with
    w := w
    hin := h
    h := geomH h
    padtop := geomPadtop h
    stride := geomStride w
    n := geomN w
    status := statusNewGeometry s.status
    bm := []
    pm := []
    imageEpoch := s.imageEpoch + 1 }

/-- The flags XPOSE writes (R108, R110). -/
def State.markXposed (s : State) : State := { s with status := statusXposed s.hin s.status }

/-- The start of a raster transfer (R120, R122). -/
def State.startTransfer (s : State) : State := { s with pos := 0, blklen := 0, pagecnt := 0 }

/-- A block of `len` payload bytes is built: its frame stands in BLKBUF and BLKLEN counts the payload (R25, R32, R121). -/
def State.buildBlock (s : State) (len : Nat) (frame : List Byte) : State :=
  { s with blklen := len, blkbuf := s.blkbuf.pokeAll 0 frame }

/-- A block's exchange returned OK (R24 to R26, R122). -/
def State.ackBlock (s : State) : State :=
  { s with pos := s.pos + s.blklen, pagecnt := s.pagecnt + s.blklen, blklen := 0 }

/-- A Print-page exchange returned OK (R26, R122). -/
def State.endPage (s : State) : State := { s with pagecnt := 0 }

/-! ### The link -/

/-- How a link-calling piece of an operation goes on: with a value, or not at all because the operation has ended (with a
mismatch or a fault, or hanging). -/
inductive Phase (α : Type) where
  | done (a : α) (s : State)
  | ended (s : State)
  deriving DecidableEq, Repr

/-- The state in which a phase leaves the block. -/
def Phase.state {α : Type} : Phase α → State
  | .done _ s => s
  | .ended s => s

/-- Go on with `k` unless the operation has ended. -/
def Phase.andThen {α β : Type} (p : Phase α) (k : α → State → Phase β) : Phase β :=
  match p with
  | .done a s => k a s
  | .ended s => .ended s

/-- The operation's last state: `k` gives it unless the operation has ended. -/
def Phase.finally {α : Type} (p : Phase α) (k : α → State → State) : State :=
  match p with
  | .done a s => k a s
  | .ended s => s

/-- An answer to a packet of `len` bytes, within the bounds of R54: `TxDone(n)` has `n ≤ len` (log 4). -/
def txAdmit (len : Nat) : TxAnswer → TxAnswer
  | .done n => .done (min n len)
  | .error => .error
  | .silent => .silent

/-- An answer to a receive, within the bounds of R54: at most 64 bytes (log 4). -/
def rxAdmit : RxAnswer → RxAnswer
  | .data b => .data (b.take Config.rxMax)
  | .error => .error
  | .silent => .silent

/-- The link's answer to this packet; past the last answer it never answers. -/
def State.txAnswer (s : State) (packet : List Byte) : TxAnswer :=
  txAdmit packet.length (s.txAnswers.headD .silent)

/-- The link's answer to the next receive; past the last answer it never answers. -/
def State.rxAnswer (s : State) : RxAnswer := rxAdmit (s.rxAnswers.headD .silent)

/-- `LinkTx(packet)` (R9, R54): the answer is used up and the trace grows by one entry. -/
def State.linkTx (s : State) (packet : List Byte) : State :=
  { s with txAnswers := s.txAnswers.tail, trace := s.trace ++ [.tx packet (s.txAnswer packet)] }

/-- `LinkRx()` (R9, R54): the answer is used up and the trace grows by one entry. -/
def State.linkRx (s : State) : State :=
  { s with rxAnswers := s.rxAnswers.tail, trace := s.trace ++ [.rx s.rxAnswer] }

/-- `RXBUF[0 .. len(b)) <- b;  RXLEN <- len(b)` (R33, R76). -/
def State.storeResponse (s : State) (b : List Byte) : State :=
  { s with rxbuf := s.rxbuf.pokeAll 0 b, rxlen := b.length }

/-- `Transmit(packet)` (R74). -/
def transmit (packet : List Byte) (s : State) : Phase Unit :=
  match s.txAnswer packet with
  | .error => .ended (s.linkTx packet).transportFault
  | .silent => .ended ((s.linkTx packet).stall (.tx packet))
  | .done n =>
    if n < packet.length then .ended (s.linkTx packet).transportFault
    else .done () (s.linkTx packet)

/-- `Receive()` (R76). -/
def receive (s : State) : Phase (List Byte) :=
  match s.rxAnswer with
  | .error => .ended s.linkRx.transportFault
  | .silent => .ended (s.linkRx.stall .rx)
  | .data b => .done b (s.linkRx.storeResponse b)

/-- The comparison of `Exchange` (R78): `OK(b)`, or the operation ends with `MISMATCH(b)` (R134). -/
def checkResponse (e : Expect) (b : List Byte) (s : State) : Phase Data :=
  if responseMatches e b then .done (.bytes b) s else .ended (s.finish (.mismatch b))

/-- `Exchange(payload, t, e)` (R78), yielding the data of its OK. -/
def exchange (payload : List Byte) (t : Nat) (e : Expect) (s : State) : Phase Data :=
  (transmit (pad payload t) s).andThen fun _ s1 =>
    match e with
    | .none => .done .none s1
    | _ => (receive s1).andThen (checkResponse e)

/-- The exchange of command `c` (R81, R82). -/
def exchangeCmd (c : Cmd) (params : List Byte) (s : State) : Phase Data :=
  exchange (c.template params) c.tsize (cmdExpect c) s

/-- Command `k` (R81): the checks in their order, then its exchange, whose data is the operation's. -/
def runCommand (k : Nat) (params : List Byte) (s : State) : State :=
  s.unlessDead fun s =>
    match Cmd.ofIndex k with
    | none => s.refuse .illegal
    | some c =>
      if c.paramsOk params.length then (exchangeCmd c params s).finally fun d s1 => s1.ok d
      else s.refuse .size

/-! ### The host's input -/

/-- The reset input (R155, R37): every register and flag 0, the buffers unspecified anew, any running operation ended
without a result. Nothing is sent; the link's answers to come, the trace and what the host does next stay. -/
def State.applyReset (s : State) : State :=
  { State.reset with
    host := s.host
    txAnswers := s.txAnswers
    rxAnswers := s.rxAnswers
    trace := s.trace
    epoch := s.epoch + 1
    imageEpoch := s.imageEpoch + 1 }

/-- The host's next input is taken. -/
def State.takeHost (s : State) : State := { s with host := s.host.tail }

/-- An operation-select code outside the map (R67, R140, R143): DEAD first, then ILLEGAL. -/
def State.illegalOpsel (s : State) : State := s.unlessDead fun s => s.refuse .illegal

/-- What the block does with bytes that are no instruction: an illegal code has the result the spec gives it; anything
else is outside the spec (log 1). -/
def rejectInput (e : DecodeError) (s : State) : Host.Outcome State Fault Refusal :=
  match e with
  | .illegalOpsel _ => .next s.illegalOpsel
  | .emptyRecord | .truncatedRecord | .trailingBytes | .unknownFrame | .badFrame => .refused .undecodable

/-- The operation the next step is to run, put at the head of what the host does, and no earlier operation hanging. -/
def State.placeRequest (s : State) (r : Request) : State :=
  { s with host := .op r :: s.host, waiting := none }

end Sys2Proof.Machine
end

