-- ==== Sys2Proof/Machine/Chunker.lean ====
section
/-! DEFINITION. The raster chunker: RXFER (43_raster_chunker.md), block by block as R122 has it. That the byte-by-byte
algorithm of R120 does the same is a statement (Machine/Reference.lean holds that algorithm). -/

namespace Sys2Proof.Machine

/-- The payload length of the next block (R122). -/
def State.nextBlockLen (s : State) : Nat :=
  min Config.blockMax (min (Config.pageBytes - s.pagecnt) (s.n - s.pos))

/-- The frame of the next block, of `len` bytes (R121), standing in BLKBUF (R32). -/
def State.nextBlock (s : State) (len : Nat) : State :=
  s.buildBlock len (Cmd.rasterblk.template (s.pmBytes s.pos len))

/-- Which exchange of a transfer comes next (R122). -/
inductive NextExchange where
  | block
  | rasterEnd
  | printPage
  deriving DecidableEq, Repr

/-- What follows an acknowledged block (R122, R123): Raster end after the last one, else Print page after a full page,
else the next block. -/
def State.afterBlock (s : State) : NextExchange :=
  if s.pos = s.n then .rasterEnd else if s.pagecnt = Config.pageBytes then .printPage else .block

/-- One Raster-block exchange (R122). -/
def blockExchange (s : State) : Phase NextExchange :=
  (exchangeCmd .rasterblk (s.pmBytes s.pos s.nextBlockLen) (s.nextBlock s.nextBlockLen)).andThen fun _ s1 =>
    .done s1.ackBlock.afterBlock s1.ackBlock

/-- The Raster-end exchange (R123); Print page follows. -/
def rasterEndExchange (s : State) : Phase NextExchange :=
  (exchangeCmd .rasterend [] s).andThen fun _ s1 => .done .printPage s1

/-- A Print-page exchange (R123); the transfer goes on with the next page's first block, or is over. -/
def printPageExchange (s : State) : Phase NextExchange :=
  (exchangeCmd .printpage [] s).andThen fun _ s1 =>
    if s1.pos < s1.n then .done .block s1.endPage else .ended (s1.endPage.ok .none)

/-- One atomic exchange step of a transfer (70_reset_and_hazards.md R176). -/
def exchangeStep (x : NextExchange) (s : State) : Phase NextExchange :=
  match x with
  | .block => blockExchange s
  | .rasterEnd => rasterEndExchange s
  | .printPage => printPageExchange s

/-- At most `steps` exchange steps, the first of them `x`. -/
def exchangeSteps (steps : Nat) (x : NextExchange) (s : State) : Phase NextExchange :=
  match steps with
  | 0 => .done x s
  | steps + 1 => (exchangeStep x s).andThen (exchangeSteps steps)

/-- RXFER (R119) as far as its first `steps` exchange steps. -/
def State.rxferUpTo (steps : Nat) (s : State) : State :=
  s.unlessDead fun s =>
    if s.pvalid then
      if 0 < s.n then (exchangeSteps steps .block s.startTransfer).state else s.startTransfer.ok .none
    else s.refuse .notready

/-- `RXFER` (R119), all of it: at most `N` blocks, `N` Print pages and one Raster end. -/
def execRxfer (s : State) : Host.Outcome State Fault Refusal := .next (s.rxferUpTo (2 * s.n + 1))

end Sys2Proof.Machine
end

