-- ==== Sys2Proof/Machine/Command.lean ====
section
/-! DEFINITION. XCHG (41_command_frames.md R81) and the eighteen commands `X.<NAME>`, each `XCHG <NAME>` (30_encoding.md
R70) with its index and parameter bytes from the command table (R82). -/

namespace Sys2Proof.Machine

/-- `XCHG k, params` (R81). -/
def execXchg (k : Nat) (params : List Byte) (s : State) : Host.Outcome State Fault Refusal :=
  .next (runCommand k params s)

/-- `XCHG STATUS` (R83). -/
def execXchgStatus (s : State) : Host.Outcome State Fault Refusal := .next (runCommand 0 [] s)

/-- `XCHG RESET` (R84). -/
def execXchgReset (s : State) : Host.Outcome State Fault Refusal := .next (runCommand 1 [] s)

/-- `XCHG CUT` (R85). -/
def execXchgCut (s : State) : Host.Outcome State Fault Refusal := .next (runCommand 2 [] s)

/-- `XCHG HALFCUT` (R86). -/
def execXchgHalfcut (s : State) : Host.Outcome State Fault Refusal := .next (runCommand 3 [] s)

/-- `XCHG FEED` (R87). -/
def execXchgFeed (s : State) : Host.Outcome State Fault Refusal := .next (runCommand 4 [] s)

/-- `XCHG CANCEL` (R88). -/
def execXchgCancel (s : State) : Host.Outcome State Fault Refusal := .next (runCommand 5 [] s)

/-- `XCHG PREJOB1` (R89). -/
def execXchgPrejob1 (s : State) : Host.Outcome State Fault Refusal := .next (runCommand 6 [] s)

/-- `XCHG PREJOB2` (R90). -/
def execXchgPrejob2 (s : State) : Host.Outcome State Fault Refusal := .next (runCommand 7 [] s)

/-- `XCHG SPEED` (R91). -/
def execXchgSpeed (s : State) : Host.Outcome State Fault Refusal := .next (runCommand 8 [] s)

/-- `XCHG TAPECHK` (R92). -/
def execXchgTapechk (hi lo : Byte) (s : State) : Host.Outcome State Fault Refusal := .next (runCommand 9 [hi, lo] s)

/-- `XCHG MARGIN` (R93). -/
def execXchgMargin (marginByte : Byte) (s : State) : Host.Outcome State Fault Refusal := .next (runCommand 10 [marginByte] s)

/-- `XCHG DENSITY` (R94). -/
def execXchgDensity (densityByte : Byte) (s : State) : Host.Outcome State Fault Refusal := .next (runCommand 11 [densityByte] s)

/-- `XCHG CUTTER` (R95). -/
def execXchgCutter (cutterByte : Byte) (s : State) : Host.Outcome State Fault Refusal := .next (runCommand 12 [cutterByte] s)

/-- `XCHG GETTAPE` (R96). -/
def execXchgGettape (s : State) : Host.Outcome State Fault Refusal := .next (runCommand 13 [] s)

/-- `XCHG PREFEED` (R97). -/
def execXchgPrefeed (amount : Byte) (s : State) : Host.Outcome State Fault Refusal := .next (runCommand 14 [amount] s)

/-- `XCHG RASTEREND` (R98). -/
def execXchgRasterend (s : State) : Host.Outcome State Fault Refusal := .next (runCommand 15 [] s)

/-- `XCHG PRINTPAGE` (R99). -/
def execXchgPrintpage (s : State) : Host.Outcome State Fault Refusal := .next (runCommand 16 [] s)

/-- `XCHG RASTERBLK` (R100). -/
def execXchgRasterblk (payload : List Byte) (s : State) : Host.Outcome State Fault Refusal :=
  .next (runCommand 17 payload s)

end Sys2Proof.Machine
end

