-- ==== Sys2Proof/Machine/Formatter.lean ====
section
/-! DEFINITION. The frame formatter's operations SEND and RECV (40_frame_formatter.md). -/

namespace Sys2Proof.Machine

/-- `SEND t, payload` (R73). -/
def execSend (t : Nat) (payload : List Byte) (s : State) : Host.Outcome State Fault Refusal :=
  .next (s.unlessDead fun s =>
    if sizeOk payload.length t then (transmit (pad payload t) s).finally fun _ s1 => s1.ok .none
    else s.refuse .size)

/-- `RECV` (R75). -/
def execRecv (s : State) : Host.Outcome State Fault Refusal :=
  .next (s.unlessDead fun s => (receive s).finally fun b s1 => s1.ok (.bytes b))

end Sys2Proof.Machine
end

