-- ==== Sys2Proof/Machine/System.lean ====
section
/-! DEFINITION. The system operation RDCSR (44_system.md). -/

namespace Sys2Proof.Machine

/-- `RDCSR n` (R130): the one operation that is not refused when FATAL is set. -/
def execRdcsr (n : Nat) (s : State) : Host.Outcome State Fault Refusal :=
  .next (match csrValue s n with
    | none => s.refuse .addr
    | some v => s.ok (.num v))

end Sys2Proof.Machine
end

