-- ==== Sys2Proof/Machine/Transposer.lean ====
section
/-! DEFINITION. The transposer: SETGEOM, WRBM, RDBM, XPOSE, RDPM (42_transposer.md), and the closed form of `Transpose`
(R107), whose equality with the rule's three loops is a statement (Machine/Reference.lean holds the loops). -/

namespace Sys2Proof.Machine

/-- The number of live BM bytes, `STRIDE * HIN` (20_memory.md R47). -/
def State.bmLive (s : State) : Nat := s.stride * s.hin

/-- `pixel(r, x)` (20_memory.md R40). -/
def State.pixel (s : State) (r x : Nat) : Bool := mbit (s.bmByte (r * s.stride + x / 8)) (x % 8)

/-- The dot at Pattern row `p` of column `x` that the Bitmap calls for (R107, R109). -/
def State.dotOf (s : State) (p x : Nat) : Bool :=
  decide (s.padtop ≤ p) && decide (p < s.padtop + s.h) && s.pixel (p - s.padtop) x

/-- Byte `a` of `Transpose` (R107, closed form): column `a / 16`, Pattern rows `8 * (a mod 16)` and the seven after it. -/
def State.patternByte (s : State) (a : Nat) : Byte :=
  byteOfBits fun k => s.dotOf (8 * (a % Config.colBytes) + k) (a / Config.colBytes)

/-- `Transpose` (R107): `16 * W` bytes. -/
def State.pattern (s : State) : List Byte := (List.range (Config.colBytes * s.w)).map s.patternByte

/-- `SETGEOM w, h` (R104). -/
def execSetgeom (w h : Nat) (s : State) : Host.Outcome State Fault Refusal :=
  .next (s.unlessDead fun s => if geomOk w h then (s.setGeometry w h).ok .none else s.refuse .geom)

/-- `WRBM a, v` (R105). -/
def execWrbm (a : Nat) (v : Byte) (s : State) : Host.Outcome State Fault Refusal :=
  .next (s.unlessDead fun s => if a < s.bmLive then (s.writeBm a v).ok .none else s.refuse .addr)

/-- `RDBM a` (R106). -/
def execRdbm (a : Nat) (s : State) : Host.Outcome State Fault Refusal :=
  .next (s.unlessDead fun s => if a < s.bmLive then s.ok (.byte (s.bmByte a)) else s.refuse .addr)

/-- `XPOSE` (R108). -/
def execXpose (s : State) : Host.Outcome State Fault Refusal :=
  .next (s.unlessDead fun s =>
    if s.w = 0 then s.refuse .notready else ((s.writePm s.pattern).markXposed).ok .none)

/-- `RDPM a` (R112). -/
def execRdpm (a : Nat) (s : State) : Host.Outcome State Fault Refusal :=
  .next (s.unlessDead fun s => if a < s.n then s.ok (.byte (s.pmByte a)) else s.refuse .addr)

end Sys2Proof.Machine
end

