-- ==== Sys2Proof/Machine/Dispatch.lean ====
section
/-! DEFINITION. One arm per instruction, each a direct call of its meaning. -/

namespace Sys2Proof.Machine

open Sys2Proof

def exec (i : Instr) (s : State) : Host.Outcome State Fault Refusal :=
  match i with
  | .rdcsr n => Sys2Proof.Machine.execRdcsr n s
  | .send t payload => Sys2Proof.Machine.execSend t payload s
  | .recv => Sys2Proof.Machine.execRecv s
  | .xchg k params => Sys2Proof.Machine.execXchg k params s
  | .setgeom w h => Sys2Proof.Machine.execSetgeom w h s
  | .wrbm a v => Sys2Proof.Machine.execWrbm a v s
  | .rdbm a => Sys2Proof.Machine.execRdbm a s
  | .xpose => Sys2Proof.Machine.execXpose s
  | .rdpm a => Sys2Proof.Machine.execRdpm a s
  | .rxfer => Sys2Proof.Machine.execRxfer s
  | .xchgStatus => Sys2Proof.Machine.execXchgStatus s
  | .xchgReset => Sys2Proof.Machine.execXchgReset s
  | .xchgCut => Sys2Proof.Machine.execXchgCut s
  | .xchgHalfcut => Sys2Proof.Machine.execXchgHalfcut s
  | .xchgFeed => Sys2Proof.Machine.execXchgFeed s
  | .xchgCancel => Sys2Proof.Machine.execXchgCancel s
  | .xchgPrejob1 => Sys2Proof.Machine.execXchgPrejob1 s
  | .xchgPrejob2 => Sys2Proof.Machine.execXchgPrejob2 s
  | .xchgSpeed => Sys2Proof.Machine.execXchgSpeed s
  | .xchgTapechk hi lo => Sys2Proof.Machine.execXchgTapechk hi lo s
  | .xchgMargin m => Sys2Proof.Machine.execXchgMargin m s
  | .xchgDensity d => Sys2Proof.Machine.execXchgDensity d s
  | .xchgCutter c => Sys2Proof.Machine.execXchgCutter c s
  | .xchgGettape => Sys2Proof.Machine.execXchgGettape s
  | .xchgPrefeed a => Sys2Proof.Machine.execXchgPrefeed a s
  | .xchgRasterend => Sys2Proof.Machine.execXchgRasterend s
  | .xchgPrintpage => Sys2Proof.Machine.execXchgPrintpage s
  | .xchgRasterblk payload => Sys2Proof.Machine.execXchgRasterblk payload s

end Sys2Proof.Machine
end

