-- ==== Sys2Proof/Machine/Interrupted.lean ====
section
/-! DEFINITION. The reset input in the middle of an operation (70_reset_and_hazards.md R155). An operation is one atomic
step, a link-calling one a sequence of atomic exchange steps (R176), so the reset finds it between two of them. -/

namespace Sys2Proof.Machine

open Sys2Proof

/-- Instruction `i` as far as its first `exchanges` exchange steps. RXFER alone has more than one step; any other
operation has not begun, or is over. -/
def execUpTo (i : Instr) (exchanges : Nat) (s : State) : Host.Outcome State Fault Refusal :=
  if i = .rxfer then .next (s.rxferUpTo exchanges)
  else if exchanges = 0 then .next s
  else exec i s

/-- The reset input after this outcome. -/
def thenReset : Host.Outcome State Fault Refusal → Host.Outcome State Fault Refusal
  | .next s => .next s.applyReset
  | .fault f => .fault f
  | .refused r => .refused r

/-- The host starts `r`, and the reset input is asserted once `exchanges` exchange steps of it are over: it ends the
operation, if it still runs or hangs, without a result (R155). -/
def resetDuring (r : Request) (exchanges : Nat) (s : State) : Host.Outcome State Fault Refusal :=
  thenReset (match decode r with
    | .ok i => execUpTo i exchanges s
    | .error e => rejectInput e s)

end Sys2Proof.Machine
end

