-- ==== Sys2Proof/Machine/Step.lean ====
section
/-! DEFINITION. One step. The block fetches no instructions and has no program counter (10_state.md R24): the host starts
each operation (00_scope.md R10), and the step takes the host's next input. -/

namespace Sys2Proof.Machine

/-- One step: the reset input acts at any time (R155); while an operation hangs the host starts nothing and the block
stays as it is (R145); otherwise the host's next operation runs to its end (R49), or until the reset input ends it (R155,
R176). With nothing from the host the block is idle (R156). -/
def step (s : State) : Host.Outcome State Fault Refusal :=
  match s.host with
  | [] => .next s
  | .reset :: _ => .next s.takeHost.applyReset
  | .op r :: _ =>
    if s.waiting.isSome then .next s
    else
      match decode r with
      | .ok i => exec i s.takeHost
      | .error e => rejectInput e s.takeHost
  | .opReset r exchanges :: _ =>
    if s.waiting.isSome then .next s else resetDuring r exchanges s.takeHost

/-- `s` with the instruction whose bits are `w` as what the next step runs (log 2). -/
def State.withFetchWord (s : State) (nbits w : Nat) : State := s.placeRequest (requestOfWord nbits w)

end Sys2Proof.Machine
end

