-- ==== Sys2Proof/Machine/Reference.lean ====
section
/-! DEFINITION. The rules' own algorithms, written out as they stand, for statements that compare them with the meanings:
the three loops of `Transpose` (42_transposer.md R107), `Untranspose` (R114), the byte-by-byte chunker (43_raster_chunker.md
R120) and the schedule of a raster transfer (R127). No meaning calls them. -/

namespace Sys2Proof.Machine

/-! ### Transpose and its inverse -/

/-- The innermost statement of R107: pixel `b` of byte-column `w` of row `r`. -/
def transposePixel (s : State) (r w b : Nat) (p : List Byte) : List Byte :=
  let x := w * 8 + b
  let row := s.padtop + r
  if x < s.w ∧ mbit (s.bmByte (r * s.stride + w)) b = true then
    p.set (x * 16 + row / 8) (mset (p.getD (x * 16 + row / 8) 0) (row % 8))
  else p

/-- The three loops of R107, from `zeros(16 * W)`. -/
def transposeLoops (s : State) : List Byte :=
  (List.range s.h).foldl (fun p r =>
    (List.range s.stride).foldl (fun p w =>
      (List.range 8).foldl (fun p b => transposePixel s r w b p) p) p)
    (zeros (16 * s.w))

/-- `pixel'(r, x)` (R114): the pixel as PM has it. -/
def State.pixelBack (s : State) (r x : Nat) : Bool :=
  mbit (s.pmByte (x * 16 + (s.padtop + r) / 8)) ((s.padtop + r) % 8)

/-- Byte `a` of the Bitmap that `Untranspose` packs (R114): row `a / STRIDE`, eight columns, pad bits 0. -/
def State.untransposeByte (s : State) (a : Nat) : Byte :=
  byteOfBits fun b =>
    decide (8 * (a % s.stride) + b < s.w) && s.pixelBack (a / s.stride) (8 * (a % s.stride) + b)

/-! ### The byte-by-byte chunker -/

/-- `BLKBUF[4 + BLKLEN] <- PM[i];  BLKLEN <- BLKLEN + 1` (R120). -/
def State.accumulate (s : State) (i : Nat) : State :=
  { s with blkbuf := s.blkbuf.poke (4 + s.blklen) (s.pmByte i), blklen := s.blklen + 1 }

/-- The flush condition of R120, after byte `i` is accumulated. -/
def State.mustFlush (s : State) (i : Nat) : Bool :=
  decide (s.blklen = 60 ∨ s.pagecnt + s.blklen = 8192 ∨ i + 1 = s.n)

/-- One flush of R120: the Raster block from BLKBUF, Raster end if last, Print page at a page boundary or if last. -/
def flushBlock (last : Bool) (s : State) : Phase Data :=
  let s1 := { s with blkbuf := s.blkbuf.poke 2 (BitVec.ofNat 8 s.blklen) }
  (exchange (s1.blkBytes (4 + s1.blklen)) 64 .ack s1).andThen fun _ s2 =>
    let s3 := s2.ackBlock
    (if last then exchange [0x02, 0x04] 16 .ack s3 else .done .none s3).andThen fun _ s4 =>
      if s4.pagecnt = 8192 ∨ last = true then
        (exchange [0x0C] 1 .ack s4).andThen fun d s5 => .done d s5.endPage
      else .done .none s4

/-- The loop of R120 from byte `i` on, with `left` bytes to go. -/
def byteLoop (left i : Nat) (s : State) : State :=
  match left with
  | 0 => s.ok .none
  | left + 1 =>
    let s1 := s.accumulate i
    if s1.mustFlush i then
      (flushBlock (decide (i + 1 = s1.n)) s1).finally fun _ s2 => byteLoop left (i + 1) s2
    else byteLoop left (i + 1) s1

/-- The algorithm of R120. -/
def byteTransfer (s : State) : State :=
  let s0 := s.startTransfer
  byteLoop s0.n 0
    { s0 with blkbuf := ((s0.blkbuf.poke 0 0x02).poke 1 0xFE).poke 3 0x00 }

/-! ### The schedule -/

/-- One exchange of the schedule (R127): a Raster block of `PM[a .. a + len)`, Raster end, or Print page. -/
inductive Item where
  | block (a len : Nat)
  | rasterEnd
  | printPage
  deriving DecidableEq, Repr

/-- `G(N) = ceil(N / 8192)` (R125). -/
def pageCount (n : Nat) : Nat := (n + 8191) / 8192

/-- `len_j` (R127): 8192 for a full page, the rest for a partial last page. -/
def pageLength (n j : Nat) : Nat := min 8192 (n - 8192 * j)

/-- The Raster blocks of a page of `len` bytes that starts at PM address `a` (R127). -/
def pageBlocks (a len : Nat) : List Item :=
  (List.range (len / 60)).map (fun i => .block (a + 60 * i) 60) ++
    (if len % 60 = 0 then [] else [.block (a + 60 * (len / 60)) (len % 60)])

/-- Page `j` of the schedule (R127). -/
def pageItems (n j : Nat) : List Item :=
  pageBlocks (8192 * j) (pageLength n j) ++
    (if j + 1 = pageCount n then [.rasterEnd] else []) ++ [.printPage]

/-- `RasterSchedule(N)` (R127). -/
def rasterSchedule (n : Nat) : List Item := (List.range (pageCount n)).flatMap (pageItems n)

/-- The packet of an exchange of the schedule (R98, R99, R121). -/
def State.itemPacket (s : State) : Item → List Byte
  | .block a len => pad ([0x02, 0xFE, BitVec.ofNat 8 len, 0x00] ++ s.pmBytes a len) 64
  | .rasterEnd => pad [0x02, 0x04] 16
  | .printPage => [0x0C]

/-- The two trace entries of an exchange answered in full and with ACK (R127). -/
def State.itemEvents (s : State) (i : Item) : List LinkEvent :=
  [.tx (s.itemPacket i) (.done (s.itemPacket i).length), .rx (.data [0x06])]

/-- The packets handed to the link, in order. -/
def sentPackets (t : List LinkEvent) : List (List Byte) :=
  t.filterMap fun e => match e with
    | .tx p _ => some p
    | .rx _ => none

end Sys2Proof.Machine
end

