-- ==== Sys2Proof/Safety.lean ====
section
/-! DEFINITION. What the statements mean by a well-kept machine: the invariant of the geometry registers (10_state.md R38),
the bounds of R17, the canonical buffers within their sizes (R30 to R33), what the flags mean (R28), and the shapes of the
link calls (20_memory.md R54, R55, 40_frame_formatter.md R79). -/

namespace Sys2Proof.Machine

/-- No geometry is set: between reset and the first accepted SETGEOM all six registers are 0 (R38). -/
def State.NoGeometry (s : State) : Prop :=
  s.w = 0 ∧ s.hin = 0 ∧ s.h = 0 ∧ s.padtop = 0 ∧ s.stride = 0 ∧ s.n = 0

/-- The four derived registers have the values their rules give (R20 to R23, R38). -/
def State.GeometryAgrees (s : State) : Prop :=
  s.h = min s.hin 128 ∧ s.padtop = (128 - s.h) / 2 ∧ s.stride = (s.w + 7) / 8 ∧ s.n = 16 * s.w

/-- A geometry is set (R38). -/
def State.HasGeometry (s : State) : Prop :=
  (1 ≤ s.w ∧ s.w ≤ Config.wMax) ∧ (1 ≤ s.hin ∧ s.hin ≤ Config.hInMax) ∧ s.GeometryAgrees

/-- Every listed address of a buffer is below its size. -/
def Mem.Within (m : Mem) (size : Nat) : Prop := ∀ c ∈ m, c.1 < size

/-- A buffer is canonical and within its size. -/
def Mem.Kept (m : Mem) (size : Nat) : Prop := m.wf ∧ m.Within size

/-- A link call within the shapes of R54 and R55: a packet of 1, 16 or 64 bytes of which at most all were written; a
response of at most 64 bytes. -/
def LinkEvent.Legal : LinkEvent → Prop
  | .tx p (.done n) => p.length ∈ [1, 16, 64] ∧ n ≤ p.length
  | .tx p .error => p.length ∈ [1, 16, 64]
  | .tx p .silent => p.length ∈ [1, 16, 64]
  | .rx (.data b) => b.length ≤ 64
  | .rx .error => True
  | .rx .silent => True

/-- The invariant of the machine. -/
structure State.Inv (s : State) : Prop where
  /-- R38. -/
  geometry : s.NoGeometry ∨ s.HasGeometry
  /-- R17; between operations POS is bounded by the largest N (log 8). -/
  pos : s.pos ≤ 16 * Config.wMax
  /-- R25. -/
  blklen : s.blklen ≤ 60
  /-- R26. -/
  pagecnt : s.pagecnt ≤ 8192
  /-- R27. -/
  rxlen : s.rxlen ≤ 64
  /-- PVALID says that a geometry is set (R28, R119). -/
  pvalid : s.pvalid = true → 1 ≤ s.w
  /-- TRUNC is set exactly when there is a pattern and its Bitmap was taller than 128 rows (R28, R110). -/
  trunc : s.trunc = true ↔ s.pvalid = true ∧ 128 < s.hin
  /-- R30. -/
  bm : s.bm.Kept ((Config.wMax + 7) / 8 * Config.hInMax)
  /-- R31. -/
  pm : s.pm.Kept (16 * Config.wMax)
  /-- R32. -/
  blkbuf : s.blkbuf.Kept 64
  /-- R33. -/
  rxbuf : s.rxbuf.Kept 64
  /-- A hanging operation has no result (R145) and the block is live (R141). -/
  waiting : s.waiting.isSome = true → s.result = none ∧ s.fatal = false
  /-- R54, R55, R79. -/
  trace : ∀ e ∈ s.trace, e.Legal

end Sys2Proof.Machine
end

