-- ==== Sys2Proof/Certificates/Slice0/Obligations.lean ====
section
/-! DEFINITION. The statements for the provers. Every statement that gives an operation's next state as a record update
says its frame too: a field that is not named is unchanged. `∃ t, … ∧ t = {s with …, bm := t.bm}` leaves only the named
buffer to the clauses before it, which say every byte of it. -/

open Sys2Proof Sys2Proof.Machine

/-! ### Shapes several statements share -/

/-- Operation `i` sends `packet`, the link writes all of it and delivers the response `b`: the next state has the response
in RXBUF[0..len(b)), the other bytes of RXBUF as they were, and the result `OK(b)` or `MISMATCH(b)` as `good` says. -/
def Claims.CommandRuns (i : Instr) (packet : List Byte) (good : List Byte → Prop) : Prop :=
  ∀ (s : State) (b : List Byte) (trest : List TxAnswer) (rrest : List RxAnswer),
    s.fatal = false → s.txAnswers = .done packet.length :: trest → s.rxAnswers = .data b :: rrest →
    b.length ≤ 64 →
    ∃ t, exec i s = .next t ∧
      (∀ a < b.length, t.rxByte a = b.getD a 0) ∧ (∀ a, b.length ≤ a → t.rxByte a = s.rxByte a) ∧
      ((good b ∧ t.result = some (.ok (.bytes b))) ∨ (¬ good b ∧ t.result = some (.mismatch b))) ∧
      t = { s with
        txAnswers := trest
        rxAnswers := rrest
        trace := s.trace ++ [.tx packet (.done packet.length), .rx (.data b)]
        rxlen := b.length
        rxbuf := t.rxbuf
        result := t.result }

/-- The command and its `XCHG k, params` form both run so (R70, R81, R82). -/
def Claims.CommandRunsAs (i : Instr) (k : Nat) (params packet : List Byte) (good : List Byte → Prop) : Prop :=
  Claims.CommandRuns i packet good ∧ Claims.CommandRuns (.xchg k params) packet good

/-- The command an instruction is, with its parameter bytes: `XCHG k, params` with `k` in the table, or `X.<NAME>`, which
means `XCHG <NAME>` (R70, R81, R82). -/
def Claims.commandOf : Instr → Option (Cmd × List Byte)
  | .xchg k params => (Cmd.ofIndex k).map fun c => (c, params)
  | .xchgStatus => some (.status, [])
  | .xchgReset => some (.reset, [])
  | .xchgCut => some (.cut, [])
  | .xchgHalfcut => some (.halfcut, [])
  | .xchgFeed => some (.feed, [])
  | .xchgCancel => some (.cancel, [])
  | .xchgPrejob1 => some (.prejob1, [])
  | .xchgPrejob2 => some (.prejob2, [])
  | .xchgSpeed => some (.speed, [])
  | .xchgTapechk hi lo => some (.tapechk, [hi, lo])
  | .xchgMargin m => some (.margin, [m])
  | .xchgDensity d => some (.density, [d])
  | .xchgCutter c => some (.cutter, [c])
  | .xchgGettape => some (.gettape, [])
  | .xchgPrefeed a => some (.prefeed, [a])
  | .xchgRasterend => some (.rasterend, [])
  | .xchgPrintpage => some (.printpage, [])
  | .xchgRasterblk payload => some (.rasterblk, payload)
  | .rdcsr _ | .send _ _ | .recv | .setgeom _ _ | .wrbm _ _ | .rdbm _ | .xpose | .rdpm _ | .rxfer => none

/-- `ACK`: exactly one byte, `06` (R77). -/
def Claims.isAck (b : List Byte) : Prop := b = [0x06]

/-- The link calls of `t` beyond those of `s`. -/
def Claims.Made (s t : State) (calls : List LinkEvent) : Prop := t.trace = s.trace ++ calls

/-- A trace entry of a send. -/
def Claims.isTx (e : LinkEvent) : Prop := ∃ p a, e = .tx p a

/-- A link call that is a transport fault: an error, or a send written short (R133). -/
def Claims.isFault : LinkEvent → Prop
  | .tx p (.done n) => n < p.length
  | .tx _ .error => True
  | .tx _ .silent => False
  | .rx (.data _) => False
  | .rx .error => True
  | .rx .silent => False

/-- A link call that is never answered, and what the block then waits for (R145). -/
def Claims.unanswered : LinkEvent → Option Wait
  | .tx p .silent => some (.tx p)
  | .tx _ (.done _) => none
  | .tx _ .error => none
  | .rx .silent => some .rx
  | .rx (.data _) => none
  | .rx .error => none

/-- The Pattern bytes in the Raster blocks of a list of exchanges. -/
def Claims.blockBytes (items : List Item) : Nat :=
  (items.map fun i => match i with
    | .block _ len => len
    | .rasterEnd => 0
    | .printPage => 0).sum

/-- The PM addresses of the bytes an exchange of the schedule carries. -/
def Claims.blockAddresses : Item → List Nat
  | .block a len => List.range' a len
  | .rasterEnd => []
  | .printPage => []

/-- Bytes since the last page boundary when `a` bytes are acknowledged and at least one since that boundary. -/
def Claims.pageFill (a : Nat) : Nat := if a % 8192 = 0 then 8192 else a % 8192

/-! ### Encodings -/

/-- Decoding an encoded well-formed instruction gives it back, every operand at every value its encoding admits. The wire
frames and the operation-select codes are the spec's (R59, R82); the operand carriage is the model's (log 1). -/
def Obligations.DecodeOfEncode : Prop := ∀ i, WellFormed i → decode (encode i) = .ok i

/-- A wire frame the decoder accepts is, byte for byte, the frame of the instruction it gives, which is well formed: no
constant, parameter or padding byte is ignored (R60, R65, R82). -/
def Obligations.AcceptedFrameIsTheFrame : Prop :=
  ∀ p i, decode ⟨.frame, p⟩ = .ok i → WellFormed i ∧ encode i = ⟨.frame, p⟩

/-- Words written out decode to the operations they stand for: wire frames from the tables of R61, R62, R63 and R82; host
records from their codes in R59, the operands after the code in the model's own carriage, which the spec leaves open (log 1:
here a CSR number and a transfer size as one byte, a payload as a length byte and its bytes). -/
def Obligations.WrittenOutWordsDecode : Prop :=
  decode ⟨.hop, [0x01, 0x0A]⟩ = .ok (.rdcsr 10) ∧
  decode ⟨.hop, [0x10, 0x10, 0x02, 0x02, 0x1D]⟩ = .ok (.send 16 [0x02, 0x1D]) ∧
  decode ⟨.hop, [0x23]⟩ = .ok .xpose ∧
  decode ⟨.hop, [0x30]⟩ = .ok .rxfer ∧
  decode ⟨.frame, [0x18]⟩ = .ok .xchgCancel ∧
  (∀ hi lo, decode ⟨.frame, [0x02, 0x17, 0x02, 0x00, 0x00, hi, lo, 0, 0, 0, 0, 0, 0, 0, 0, 0]⟩ =
    .ok (.xchgTapechk hi lo)) ∧
  (∀ d, decode ⟨.frame, [0x02, 0x09, 0x06, 0x00, 0x00, 0x00, 0x01, 0x00, d, 0x00, 0, 0, 0, 0, 0, 0]⟩ =
    .ok (.xchgDensity d))

/-! ### The step, reset, the invariant -/

/-- When the host's next input carries instruction `i` and no operation hangs, the step is `exec i` with that input taken. -/
def Obligations.StepRunsDecodedOperation : Prop :=
  ∀ (s : State) (r : Request) (rest : List HostInput) (i : Instr),
    s.waiting = none → s.host = .op r :: rest → decode r = .ok i → step s = exec i { s with host := rest }

/-- R37, R156: after reset every register and flag is 0, so RDCSR of every CSR returns 0 and nothing is a fault; no byte of
a buffer has a value of the model's choosing; the block is live and idle. -/
def Obligations.ResetState : Prop :=
  (∀ n ≤ 10, exec (.rdcsr n) State.reset = .next { State.reset with result := some (.ok (.num 0)) }) ∧
  (∀ a, State.reset.bmByte a = Config.unspecified .bm 0 a ∧ State.reset.pmByte a = Config.unspecified .pm 0 a ∧
    State.reset.blkByte a = Config.unspecified .blkbuf 0 a ∧ State.reset.rxByte a = Config.unspecified .rxbuf 0 a) ∧
  State.reset.fatal = false ∧ step State.reset = .next State.reset

/-- R155: the reset input, at any time, gives every register and flag its reset value, ends a hanging operation without a
result, and makes no link call; nothing else ends the fatal state or a hang. The model's own choices in it: no byte of a
buffer is listed and both epochs advance, so that every byte is a new free value (log 3); the host's and the link's inputs
to come stay (logs 2, 4); a hang is a waiting state (log 5); the trace stays (log 6); an older result is no longer seen
(log 7). -/
def Obligations.ResetInput : Prop :=
  (∀ (s : State) (rest : List HostInput), s.host = .reset :: rest →
    ∃ t, step s = .next t ∧
      t = { State.reset with
        host := rest
        txAnswers := s.txAnswers
        rxAnswers := s.rxAnswers
        trace := s.trace
        epoch := s.epoch + 1
        imageEpoch := s.imageEpoch + 1 }) ∧
  (∀ s t, step s = .next t → (∀ rest, s.host ≠ .reset :: rest) → (∀ r j rest, s.host ≠ .opReset r j :: rest) →
    s.fatal = true → t.fatal = true) ∧
  (∀ s, (∀ rest, s.host ≠ .reset :: rest) → s.waiting.isSome = true → step s = .next s)

/-- The invariant holds after reset. -/
def Obligations.InvAtReset : Prop := State.reset.Inv

/-- Every step keeps the invariant, from every state that has it. -/
def Obligations.StepKeepsInv : Prop := ∀ s t, s.Inv → step s = .next t → t.Inv

/-! ### Rules over all operations -/

/-- R11, R145: an operation started while none hangs ends with exactly one result, every link call it made answered; or it
has no result, its last link call is the one never answered, and the block waits for that call. -/
def Obligations.OneResultOrHang : Prop :=
  ∀ i s t, s.waiting = none → exec i s = .next t →
    ∃ calls, Claims.Made s t calls ∧
      ((t.waiting = none ∧ t.result.isSome = true ∧ ∀ e ∈ calls, Claims.unanswered e = none) ∨
        (t.result = none ∧ ∃ before e, calls = before ++ [e] ∧ (Claims.unanswered e).isSome = true ∧
          t.waiting = Claims.unanswered e ∧ ∀ e' ∈ before, Claims.unanswered e' = none))

/-- R141: with FATAL set every operation but RDCSR is refused with DEAD, whatever its operands, and changes nothing. -/
def Obligations.DeadBlockRefuses : Prop :=
  ∀ i s, s.fatal = true → (∀ n, i ≠ .rdcsr n) → exec i s = .next { s with result := some (.refused .dead) }

/-- R131(b): an operation whose result is a refusal has changed no state and made no link call. -/
def Obligations.RefusedChangesNothing : Prop :=
  ∀ i s t r, exec i s = .next t → t.result = some (.refused r) → t = { s with result := some (.refused r) }

/-- R133: an operation of a live block ends with FATAL set exactly when its result is `FATAL`, and exactly when one of its
link calls was answered with an error or written short; that call is its last. -/
def Obligations.FatalFlagIsFatalResult : Prop :=
  ∀ i s t, s.fatal = false → exec i s = .next t →
    (t.fatal = true ↔ t.result = some .fatal) ∧
    ∃ calls, Claims.Made s t calls ∧
      (t.result = some .fatal ↔ ∃ e ∈ calls, Claims.isFault e) ∧
      ∀ j e, calls[j]? = some e → Claims.isFault e → j + 1 = calls.length

/-- R134: only an XCHG but CANCEL, or RXFER, ends with MISMATCH; it returns the response it got last, which stands in
RXBUF[0..RXLEN). STATUS with its flags, all six geometry registers, BM and PM are unchanged, and so are POS, BLKLEN, PAGECNT
and BLKBUF but for RXFER, whose registers are R126's. The block is live and waits for nothing. -/
def Obligations.MismatchIsRecoverable : Prop :=
  ∀ i s t b, s.waiting = none → exec i s = .next t → t.result = some (.mismatch b) →
    (i = .rxfer ∨ (encode i).level = .frame ∧ i ≠ .xchgCancel ∨ ∃ k params, i = .xchg k params ∧ k ≠ 5) ∧
    t.trace.getLast? = some (.rx (.data b)) ∧ t.rxBytes = b ∧ t.rxlen = b.length ∧
    t.status = s.status ∧ t.fatal = false ∧ t.waiting = none ∧ t.bm = s.bm ∧ t.pm = s.pm ∧
    t.w = s.w ∧ t.hin = s.hin ∧ t.h = s.h ∧ t.padtop = s.padtop ∧ t.stride = s.stride ∧ t.n = s.n ∧
    (i ≠ .rxfer → t.pos = s.pos ∧ t.blklen = s.blklen ∧ t.pagecnt = s.pagecnt ∧ t.blkbuf = s.blkbuf) ∧
    t.host = s.host ∧ t.epoch = s.epoch ∧ t.imageEpoch = s.imageEpoch

/-- R16, R18 to R23: the six geometry registers are written by no operation but SETGEOM. -/
def Obligations.GeometryOnlyBySetgeom : Prop :=
  ∀ i s t, (∀ w h, i ≠ .setgeom w h) → exec i s = .next t →
    t.w = s.w ∧ t.hin = s.hin ∧ t.h = s.h ∧ t.padtop = s.padtop ∧ t.stride = s.stride ∧ t.n = s.n

/-- R24 to R26, R30 to R33, R56: BM is written by WRBM alone, PM by XPOSE alone, POS, BLKLEN, PAGECNT and BLKBUF by RXFER
alone; RDCSR, SEND, CANCEL (also as `XCHG 5`) and the transposer's operations leave RXLEN and RXBUF; no operation takes a
host input. SETGEOM writes no byte, but makes those of BM and PM unspecified (log 9), so it is left out of their clauses. -/
def Obligations.WhatOperationsTouch : Prop :=
  ∀ i s t, exec i s = .next t →
    ((∀ a v, i ≠ .wrbm a v) → (∀ w h, i ≠ .setgeom w h) → t.bm = s.bm) ∧
    (i ≠ .xpose → (∀ w h, i ≠ .setgeom w h) → t.pm = s.pm) ∧
    ((∀ w h, i ≠ .setgeom w h) → t.imageEpoch = s.imageEpoch) ∧
    (i ≠ .rxfer → t.pos = s.pos ∧ t.blklen = s.blklen ∧ t.pagecnt = s.pagecnt ∧ t.blkbuf = s.blkbuf) ∧
    ((∃ n, i = .rdcsr n) ∨ (∃ k p, i = .send k p) ∨ i = .xchgCancel ∨ (∃ params, i = .xchg 5 params) ∨
      (∃ w h, i = .setgeom w h) ∨ (∃ a v, i = .wrbm a v) ∨ (∃ a, i = .rdbm a) ∨ i = .xpose ∨ (∃ a, i = .rdpm a) →
      t.rxlen = s.rxlen ∧ t.rxbuf = s.rxbuf) ∧
    t.host = s.host ∧ t.epoch = s.epoch

/-- R56, R118: RDCSR and the transposer's operations make no link call, use up no answer and never hang. -/
def Obligations.NoLinkCalls : Prop :=
  ∀ i s t, ((∃ n, i = .rdcsr n) ∨ (∃ w h, i = .setgeom w h) ∨ (∃ a v, i = .wrbm a v) ∨ (∃ a, i = .rdbm a) ∨
      i = .xpose ∨ ∃ a, i = .rdpm a) →
    exec i s = .next t →
    t.trace = s.trace ∧ t.txAnswers = s.txAnswers ∧ t.rxAnswers = s.rxAnswers ∧ t.waiting = s.waiting

/-- R28, R131: PVALID and TRUNC are changed by SETGEOM and XPOSE alone, and by these only when the result is OK; PVALID is
cleared by SETGEOM and set by XPOSE. -/
def Obligations.PatternFlags : Prop :=
  ∀ i s t, exec i s = .next t →
    ((∀ w h, i ≠ .setgeom w h) → i ≠ .xpose → t.pvalid = s.pvalid ∧ t.trunc = s.trunc) ∧
    (t.result ≠ some (.ok .none) → t.pvalid = s.pvalid ∧ t.trunc = s.trunc) ∧
    (t.result = some (.ok .none) → i = .xpose → t.pvalid = true) ∧
    (t.result = some (.ok .none) → (∃ w h, i = .setgeom w h) → t.pvalid = false)

/-- R135: XPOSE of a Bitmap taller than 128 rows sets TRUNC and still returns OK; TRUNC then stays set until an XPOSE with
`HIN ≤ 128`, an accepted SETGEOM, or reset. -/
def Obligations.TruncationWarning : Prop :=
  (∀ s, s.fatal = false → s.w ≠ 0 → 128 < s.hin →
    ∃ t, exec .xpose s = .next t ∧ t.trunc = true ∧ t.result = some (.ok .none)) ∧
  (∀ s t, step s = .next t → s.trunc = true → t.trunc = false →
    ∃ input rest, s.host = input :: rest ∧
      (input = .reset ∨ (∃ r j, input = .opReset r j) ∨
        ∃ r, input = .op r ∧
          ((decode r = .ok .xpose ∧ s.hin ≤ 128) ∨ ∃ w h, decode r = .ok (.setgeom w h)) ∧
          t.result = some (.ok .none)))

/-- R79, R54, R12: an operation only adds link calls to the trace, and every packet it hands to the link has 1, 16 or 64
bytes, none of them written past its end, and every response at most 64. -/
def Obligations.LinkCallsAreLegal : Prop :=
  ∀ i s t, exec i s = .next t → ∃ calls, Claims.Made s t calls ∧ ∀ e ∈ calls, e.Legal

/-- R46, R54: each link call uses one answer of its direction, in order, and no answer is used without a call. -/
def Obligations.OneAnswerPerCall : Prop :=
  ∀ i s t, exec i s = .next t →
    ∃ calls, Claims.Made s t calls ∧
      t.txAnswers = s.txAnswers.drop (sentPackets calls).length ∧
      t.rxAnswers = s.rxAnswers.drop (calls.length - (sentPackets calls).length)

/-- R49(d), R128: within an operation other than RECV sends and receives alternate, a send first: one exchange in flight. -/
def Obligations.SendThenReceive : Prop :=
  ∀ i s t, i ≠ .recv → exec i s = .next t →
    ∃ calls, Claims.Made s t calls ∧ ∀ j e, calls[j]? = some e → (j % 2 = 0 ↔ Claims.isTx e)

/-- R32, R33, R36: no stale byte of BLKBUF or RXBUF has any effect: with other contents of the two, every operation does the
same to everything else. -/
def Obligations.StaleBytesInvisible : Prop :=
  ∀ i s t m1 m2, exec i s = .next t →
    ∃ m3 m4, exec i { s with blkbuf := m1, rxbuf := m2 } = .next { t with blkbuf := m3, rxbuf := m4 }

/-! ### Refusals -/

/-- R140 (and the order of R143): an operation-select code outside the map is refused with ILLEGAL, after DEAD, whatever
follows the code; XCHG with an index above 17 likewise. Nothing else changes. -/
def Obligations.IllegalRefused : Prop :=
  (∀ (s : State) (op : Byte) (operands : List Byte) (rest : List HostInput),
    op ∉ ([0x01, 0x10, 0x11, 0x12, 0x20, 0x21, 0x22, 0x23, 0x24, 0x30] : List Byte) →
    s.waiting = none → s.host = .op ⟨.hop, op :: operands⟩ :: rest →
    step s = .next { s with
      host := rest
      result := some (.refused (if s.fatal = true then .dead else .illegal)) }) ∧
  (∀ (s : State) (k : Nat) (params : List Byte), 17 < k →
    exec (.xchg k params) s = .next { s with
      result := some (.refused (if s.fatal = true then .dead else .illegal)) })

/-- R136: a transfer size outside 1, 16, 64 or a payload longer than it; a wrong number of parameter bytes for a command, a
Raster payload of more than 60 bytes: refused with SIZE, nothing sent, nothing changed. -/
def Obligations.SizeRefused : Prop :=
  (∀ (s : State) (t : Nat) (payload : List Byte), s.fatal = false →
    ¬ ((t = 1 ∨ t = 16 ∨ t = 64) ∧ payload.length ≤ t) →
    exec (.send t payload) s = .next { s with result := some (.refused .size) }) ∧
  (∀ (s : State) (k count : Nat) (params : List Byte), s.fatal = false →
    [0, 0, 0, 0, 0, 0, 0, 0, 0, 2, 1, 1, 1, 0, 1, 0, 0][k]? = some count → params.length ≠ count →
    exec (.xchg k params) s = .next { s with result := some (.refused .size) }) ∧
  (∀ (s : State) (payload : List Byte), s.fatal = false → 60 < payload.length →
    exec (.xchg 17 payload) s = .next { s with result := some (.refused .size) } ∧
    exec (.xchgRasterblk payload) s = .next { s with result := some (.refused .size) })

/-- R138: a BM address from `STRIDE * HIN` on, a PM address from `N` on, a CSR number above 10: refused with ADDR. -/
def Obligations.AddressRefused : Prop :=
  ∀ (s : State) (a : Nat) (v : Byte),
    (s.fatal = false → s.stride * s.hin ≤ a →
      exec (.wrbm a v) s = .next { s with result := some (.refused .addr) } ∧
      exec (.rdbm a) s = .next { s with result := some (.refused .addr) }) ∧
    (s.fatal = false → s.n ≤ a → exec (.rdpm a) s = .next { s with result := some (.refused .addr) }) ∧
    (10 < a → exec (.rdcsr a) s = .next { s with result := some (.refused .addr) })

/-- R139: XPOSE with no geometry set (`W = 0`), RXFER with PVALID 0: refused with NOTREADY, nothing sent or changed. -/
def Obligations.NotReadyRefused : Prop :=
  ∀ s : State, s.fatal = false →
    (s.w = 0 → exec .xpose s = .next { s with result := some (.refused .notready) }) ∧
    (s.pvalid = false → exec .rxfer s = .next { s with result := some (.refused .notready) })

/-! ### System and frame formatter -/

/-- R130, R29, R28: RDCSR returns the register its number names, STATUS as `PVALID + 2 * TRUNC + 4 * FATAL`; a number above
10 is refused with ADDR; it has no side effect and is not refused when FATAL is set. -/
def Obligations.RdcsrReturnsRegister : Prop :=
  ∀ (n : Nat) (s : State),
    exec (.rdcsr n) s = .next { s with
      result := some (match
          [s.pvalid.toNat + 2 * s.trunc.toNat + 4 * s.fatal.toNat, s.w, s.hin, s.h, s.padtop, s.stride, s.n, s.pos,
            s.blklen, s.pagecnt, s.rxlen][n]? with
        | some v => .ok (.num v)
        | none => .refused .addr) }

/-- R71 to R73: a SEND within the size contract, answered in full, hands the link the payload and zeros up to exactly `t`
bytes, returns OK, and changes nothing else. -/
def Obligations.SendPadsAndSends : Prop :=
  ∀ (s : State) (t : Nat) (payload : List Byte) (trest : List TxAnswer),
    s.fatal = false → (t = 1 ∨ t = 16 ∨ t = 64) → payload.length ≤ t → s.txAnswers = .done t :: trest →
    exec (.send t payload) s = .next { s with
      txAnswers := trest
      trace := s.trace ++ [.tx (payload ++ List.replicate (t - payload.length) 0) (.done t)]
      result := some (.ok .none) }

/-- R74, R144: an error or a short write answering the send of a SEND or of a command, as `XCHG` or as `X.<NAME>`, is
fatal: FATAL is set, the result is `FATAL`, no receive is made, and everything else keeps its value. -/
def Obligations.SendFaultIsFatal : Prop :=
  ∀ (s : State) (i : Instr) (packet : List Byte) (answer : TxAnswer) (trest : List TxAnswer),
    s.fatal = false →
    ((∃ t payload, i = .send t payload ∧ (t = 1 ∨ t = 16 ∨ t = 64) ∧ payload.length ≤ t ∧
        packet = payload ++ List.replicate (t - payload.length) 0) ∨
      (∃ c params, Claims.commandOf i = some (c, params) ∧ c.paramsOk params.length = true ∧
        packet = c.packet params)) →
    (answer = .error ∨ ∃ n, answer = .done n ∧ n < packet.length) →
    s.txAnswers = answer :: trest →
    exec i s = .next { s with
      txAnswers := trest
      trace := s.trace ++ [.tx packet answer]
      status := s.status ||| 4#3
      result := some .fatal }

/-- R75, R76: RECV returns exactly the bytes received, which stand in RXBUF[0..RXLEN), the bytes after them as they were,
and compares nothing; an error is fatal and leaves RXBUF and RXLEN; after FATAL it is refused with DEAD. -/
def Obligations.RecvReturnsResponse : Prop :=
  ∀ (s : State) (rrest : List RxAnswer),
    (∀ b : List Byte, s.fatal = false → s.rxAnswers = .data b :: rrest → b.length ≤ 64 →
      ∃ t, exec .recv s = .next t ∧ t.rxBytes = b ∧ (∀ a, b.length ≤ a → t.rxByte a = s.rxByte a) ∧
        t = { s with
          rxAnswers := rrest
          trace := s.trace ++ [.rx (.data b)]
          rxlen := b.length
          rxbuf := t.rxbuf
          result := some (.ok (.bytes b)) }) ∧
    (s.fatal = false → s.rxAnswers = .error :: rrest →
      exec .recv s = .next { s with
        rxAnswers := rrest
        trace := s.trace ++ [.rx .error]
        status := s.status ||| 4#3
        result := some .fatal }) ∧
    (s.fatal = true → exec .recv s = .next { s with result := some (.refused .dead) })

/-- R76, R78, R144: an error answering the receive of a command, as `XCHG` or as `X.<NAME>`, whose send was written in full
is fatal; nothing is compared, and RXBUF and RXLEN are unchanged by the failed receive. -/
def Obligations.ReceiveFaultIsFatal : Prop :=
  ∀ (s : State) (i : Instr) (c : Cmd) (params : List Byte) (trest : List TxAnswer) (rrest : List RxAnswer),
    s.fatal = false → Claims.commandOf i = some (c, params) → c ≠ .cancel → c.paramsOk params.length = true →
    s.txAnswers = .done c.tsize :: trest → s.rxAnswers = .error :: rrest →
    exec i s = .next { s with
      txAnswers := trest
      rxAnswers := rrest
      trace := s.trace ++ [.tx (c.packet params) (.done c.tsize), .rx .error]
      status := s.status ||| 4#3
      result := some .fatal }

/-- R145: a SEND, a RECV, or a command, as `XCHG` or as `X.<NAME>`, whose send or whose receive the link never answers has
no result; every register and buffer, RXLEN, RXBUF and STATUS among them, is as it was, and the block then stays as it is,
step after step, whatever operations the host has left, until the reset input. -/
def Obligations.UnansweredTransferHangs : Prop :=
  (∀ (s : State) (t : Nat) (payload : List Byte), s.fatal = false → (t = 1 ∨ t = 16 ∨ t = 64) →
    payload.length ≤ t → s.txAnswers.head?.getD .silent = .silent →
    exec (.send t payload) s = .next { s with
      txAnswers := s.txAnswers.tail
      trace := s.trace ++ [.tx (payload ++ List.replicate (t - payload.length) 0) .silent]
      waiting := some (.tx (payload ++ List.replicate (t - payload.length) 0))
      result := none }) ∧
  (∀ s : State, s.fatal = false → s.rxAnswers.head?.getD .silent = .silent →
    exec .recv s = .next { s with
      rxAnswers := s.rxAnswers.tail
      trace := s.trace ++ [.rx .silent]
      waiting := some .rx
      result := none }) ∧
  (∀ (s : State) (i : Instr) (c : Cmd) (params : List Byte), s.fatal = false →
    Claims.commandOf i = some (c, params) → c.paramsOk params.length = true →
    s.txAnswers.head?.getD .silent = .silent →
    exec i s = .next { s with
      txAnswers := s.txAnswers.tail
      trace := s.trace ++ [.tx (c.packet params) .silent]
      waiting := some (.tx (c.packet params))
      result := none }) ∧
  (∀ (s : State) (i : Instr) (c : Cmd) (params : List Byte) (trest : List TxAnswer), s.fatal = false →
    Claims.commandOf i = some (c, params) → c ≠ .cancel → c.paramsOk params.length = true →
    s.txAnswers = .done c.tsize :: trest → s.rxAnswers.head?.getD .silent = .silent →
    exec i s = .next { s with
      txAnswers := trest
      rxAnswers := s.rxAnswers.tail
      trace := s.trace ++ [.tx (c.packet params) (.done c.tsize), .rx .silent]
      waiting := some .rx
      result := none }) ∧
  (∀ (k : Nat) (s : State), s.waiting.isSome = true → (∀ rest, s.host ≠ .reset :: rest) →
    Sys2Proof.core.run k s = .next s)

/-! ### Commands -/

/-- R84 to R87, R89, R91, R98, R99: the commands without operands that expect ACK send exactly the packet the rule writes
out, and end with `OK(06)` or `MISMATCH(b)`. -/
def Obligations.PlainAckCommands : Prop :=
  Claims.CommandRunsAs .xchgReset 1 [] [0x02, 0x01, 0, 0, 0, 0, 0, 0, 0, 0, 0, 0, 0, 0, 0, 0] Claims.isAck ∧
  Claims.CommandRunsAs .xchgCut 2 [] [0x08] Claims.isAck ∧
  Claims.CommandRunsAs .xchgHalfcut 3 [] [0x09] Claims.isAck ∧
  Claims.CommandRunsAs .xchgFeed 4 [] [0x0A] Claims.isAck ∧
  Claims.CommandRunsAs .xchgPrejob1 6 []
    [0x02, 0x02, 0x04, 0x00, 0x00, 0x09, 0x09, 0x01, 0, 0, 0, 0, 0, 0, 0, 0] Claims.isAck ∧
  Claims.CommandRunsAs .xchgSpeed 8 [] [0x02, 0x1C, 0x01, 0, 0, 0, 0, 0, 0, 0, 0, 0, 0, 0, 0, 0] Claims.isAck ∧
  Claims.CommandRunsAs .xchgRasterend 15 [] [0x02, 0x04, 0, 0, 0, 0, 0, 0, 0, 0, 0, 0, 0, 0, 0, 0] Claims.isAck ∧
  Claims.CommandRunsAs .xchgPrintpage 16 [] [0x0C] Claims.isAck

/-- R92 to R95, R97, R102: the commands with operand bytes copy them unchanged to their places, every byte value alike, send
the packet the rule writes out, and end with `OK(06)` or `MISMATCH(b)`. -/
def Obligations.OperandAckCommands : Prop :=
  (∀ hi lo, Claims.CommandRunsAs (.xchgTapechk hi lo) 9 [hi, lo]
    [0x02, 0x17, 0x02, 0x00, 0x00, hi, lo, 0, 0, 0, 0, 0, 0, 0, 0, 0] Claims.isAck) ∧
  (∀ m, Claims.CommandRunsAs (.xchgMargin m) 10 [m]
    [0x02, 0x0D, 0x01, 0x00, m, 0, 0, 0, 0, 0, 0, 0, 0, 0, 0, 0] Claims.isAck) ∧
  (∀ d, Claims.CommandRunsAs (.xchgDensity d) 11 [d]
    [0x02, 0x09, 0x06, 0x00, 0x00, 0x00, 0x01, 0x00, d, 0, 0, 0, 0, 0, 0, 0] Claims.isAck) ∧
  (∀ c, Claims.CommandRunsAs (.xchgCutter c) 12 [c]
    [0x02, 0x19, 0x01, 0x00, c, 0, 0, 0, 0, 0, 0, 0, 0, 0, 0, 0] Claims.isAck) ∧
  (∀ a, Claims.CommandRunsAs (.xchgPrefeed a) 14 [a]
    [0x02, 0x1B, 0x01, 0x00, a, 0, 0, 0, 0, 0, 0, 0, 0, 0, 0, 0] Claims.isAck)

/-- R83, R90: Status check and Pre-job config step 2 accept exactly their response, byte for byte; any other response, one
that differs in a byte, is shorter or is longer, is a mismatch. -/
def Obligations.ExactResponseCommands : Prop :=
  Claims.CommandRunsAs .xchgStatus 0 [] [0x02, 0x1D, 0, 0, 0, 0, 0, 0, 0, 0, 0, 0, 0, 0, 0, 0]
    (fun b => b = [0x02, 0x80, 0x02, 0x00, 0x00, 0xA6]) ∧
  Claims.CommandRunsAs .xchgPrejob2 7 [] [0x02, 0x82, 0, 0, 0, 0, 0, 0, 0, 0, 0, 0, 0, 0, 0, 0]
    (fun b => b = [0x02, 0x80, 0x01, 0x00, 0x01])

/-- R96: Get mounted tape checks the response's length only, which must be 5. -/
def Obligations.GetTapeChecksLength : Prop :=
  Claims.CommandRunsAs .xchgGettape 13 [] [0x02, 0x1A, 0, 0, 0, 0, 0, 0, 0, 0, 0, 0, 0, 0, 0, 0]
    (fun b => b.length = 5)

/-- R101: the Tape-check operation of each tape sends its code's high byte at offset 5 and its low byte at offset 6. -/
def Obligations.TapeCheckFrames : Prop :=
  Claims.CommandRuns (tapeCheck .mm6) [0x02, 0x17, 0x02, 0, 0, 0x81, 0x00, 0, 0, 0, 0, 0, 0, 0, 0, 0] Claims.isAck ∧
  Claims.CommandRuns (tapeCheck .mm9) [0x02, 0x17, 0x02, 0, 0, 0x85, 0x00, 0, 0, 0, 0, 0, 0, 0, 0, 0] Claims.isAck ∧
  Claims.CommandRuns (tapeCheck .mm12) [0x02, 0x17, 0x02, 0, 0, 0x83, 0x03, 0, 0, 0, 0, 0, 0, 0, 0, 0] Claims.isAck ∧
  Claims.CommandRuns (tapeCheck .mm18) [0x02, 0x17, 0x02, 0, 0, 0x87, 0x03, 0, 0, 0, 0, 0, 0, 0, 0, 0] Claims.isAck ∧
  Claims.CommandRuns (tapeCheck .mm24) [0x02, 0x17, 0x02, 0, 0, 0x86, 0x03, 0, 0, 0, 0, 0, 0, 0, 0, 0] Claims.isAck ∧
  Claims.CommandRuns (tapeCheck .none) [0x02, 0x17, 0x02, 0, 0, 0x00, 0x00, 0, 0, 0, 0, 0, 0, 0, 0, 0] Claims.isAck

/-- R88: Cancel job sends `18`, receives nothing, and returns OK with no data; RXBUF and RXLEN are left as they were and an
answer of the printer stays for the next receive. -/
def Obligations.CancelReceivesNothing : Prop :=
  ∀ (s : State) (trest : List TxAnswer), s.fatal = false → s.txAnswers = .done 1 :: trest →
    ∀ i, i = .xchgCancel ∨ i = .xchg 5 [] →
      exec i s = .next { s with
        txAnswers := trest
        trace := s.trace ++ [.tx [0x18] (.done 1)]
        result := some (.ok .none) }

/-- R100: Raster block sends `02 FE LL 00`, the `L ≤ 60` payload bytes and zeros, 64 bytes whatever `L`, and ends with
`OK(06)` or `MISMATCH(b)`; more than 60 bytes are refused with SIZE. The blocks a RXFER sends, its
packets of 64 bytes, have a `blockLen` of 1 to 60. -/
def Obligations.RasterBlockCommand : Prop :=
  (∀ payload : List Byte, payload.length ≤ 60 →
    Claims.CommandRunsAs (.xchgRasterblk payload) 17 payload
      ([0x02, 0xFE, BitVec.ofNat 8 payload.length, 0x00] ++ payload ++ List.replicate (60 - payload.length) 0)
      Claims.isAck) ∧
  (∀ (s : State) (payload : List Byte), s.fatal = false → 60 < payload.length →
    exec (.xchgRasterblk payload) s = .next { s with result := some (.refused .size) }) ∧
  (∀ (s t : State) (calls : List LinkEvent), s.fatal = false → exec .rxfer s = .next t → Claims.Made s t calls →
    ∀ p ∈ sentPackets calls, p.length = 64 → 1 ≤ (p.getD 2 0).toNat ∧ (p.getD 2 0).toNat ≤ 60)

/-! ### Transposer -/

/-- R104, R137: SETGEOM of a geometry in range writes the six registers and clears PVALID and TRUNC; one out of range is
refused with GEOM and changes nothing; after FATAL it is refused with DEAD. It writes no byte of BM or PM; that each of
their bytes, until written again, may hold any value is R167 with I2 and I3, by the model's new free values (log 9). -/
def Obligations.SetgeomWritesGeometry : Prop :=
  ∀ (s : State) (w h : Nat),
    (s.fatal = false → 1 ≤ w → w ≤ Config.wMax → 1 ≤ h → h ≤ Config.hInMax →
      exec (.setgeom w h) s = .next { s with
        w := w
        hin := h
        h := min h 128
        padtop := (128 - min h 128) / 2
        stride := (w + 7) / 8
        n := 16 * w
        status := s.status &&& 4#3
        bm := []
        pm := []
        imageEpoch := s.imageEpoch + 1
        result := some (.ok .none) }) ∧
    (s.fatal = false → w = 0 ∨ h = 0 ∨ Config.wMax < w ∨ Config.hInMax < h →
      exec (.setgeom w h) s = .next { s with result := some (.refused .geom) }) ∧
    (s.fatal = true → exec (.setgeom w h) s = .next { s with result := some (.refused .dead) })

/-- R105: WRBM at a live address writes that byte and no other, and nothing else changes; at any other address it is refused
with ADDR, and after FATAL with DEAD. -/
def Obligations.WrbmWritesOneByte : Prop :=
  ∀ (s : State) (a : Nat) (v : Byte),
    (s.fatal = false → a < s.stride * s.hin →
      ∃ t, exec (.wrbm a v) s = .next t ∧ t.bmByte a = v ∧ (∀ x, x ≠ a → t.bmByte x = s.bmByte x) ∧
        t = { s with bm := t.bm, result := some (.ok .none) }) ∧
    (s.fatal = false → s.stride * s.hin ≤ a →
      exec (.wrbm a v) s = .next { s with result := some (.refused .addr) }) ∧
    (s.fatal = true → exec (.wrbm a v) s = .next { s with result := some (.refused .dead) })

/-- R106: RDBM at a live address returns that byte of BM and has no side effect; at any other it is refused with ADDR, and
after FATAL with DEAD. -/
def Obligations.RdbmReturnsByte : Prop :=
  ∀ (s : State) (a : Nat),
    (s.fatal = false → a < s.stride * s.hin →
      exec (.rdbm a) s = .next { s with result := some (.ok (.byte (s.bmByte a))) }) ∧
    (s.fatal = false → s.stride * s.hin ≤ a →
      exec (.rdbm a) s = .next { s with result := some (.refused .addr) }) ∧
    (s.fatal = true → exec (.rdbm a) s = .next { s with result := some (.refused .dead) })

/-- R49(b): a byte written to BM is the byte there after any later operation but a WRBM to the same address or an accepted
SETGEOM, after which it may hold any value (R167, I2; log 9). -/
def Obligations.BitmapByteStays : Prop :=
  ∀ (s t u : State) (a : Nat) (v : Byte) (i : Instr),
    s.fatal = false → a < s.stride * s.hin → exec (.wrbm a v) s = .next t →
    (∀ v', i ≠ .wrbm a v') → exec i t = .next u → (∀ w h, i = .setgeom w h → u.result ≠ some (.ok .none)) →
    u.bmByte a = v

/-- R107, R108: XPOSE writes every live PM byte: the dot of Pattern row `p` in column `x` is 1 exactly when
`PADTOP ≤ p < PADTOP + H` and the pixel of Bitmap row `p - PADTOP` in column `x` is 1. TRUNC is set exactly when
`HIN > 128`, PVALID is set; BM, PM from `16 * W` on and everything else are unchanged. With no geometry it is refused with
NOTREADY, after FATAL with DEAD. -/
def Obligations.XposeBuildsPattern : Prop :=
  ∀ s : State,
    (s.fatal = false → s.w ≠ 0 →
      ∃ t, exec .xpose s = .next t ∧
        (∀ x < s.w, ∀ p < 128,
          mbit (t.pmByte (x * 16 + p / 8)) (p % 8) =
            (decide (s.padtop ≤ p ∧ p < s.padtop + s.h) &&
              mbit (s.bmByte ((p - s.padtop) * s.stride + x / 8)) (x % 8))) ∧
        (∀ a, 16 * s.w ≤ a → t.pmByte a = s.pmByte a) ∧
        t = { s with
          pm := t.pm
          status := if 128 < s.hin then 3#3 else 1#3
          result := some (.ok .none) }) ∧
    (s.fatal = false → s.w = 0 → exec .xpose s = .next { s with result := some (.refused .notready) }) ∧
    (s.fatal = true → exec .xpose s = .next { s with result := some (.refused .dead) })

/-- R107: what XPOSE leaves in PM is what the rule's three nested loops of `mset` compute from zeros, and has the bits of
the rule's closed form. -/
def Obligations.XposeIsTheThreeLoops : Prop :=
  ∀ s t : State, s.fatal = false → s.w ≠ 0 → s.GeometryAgrees → exec .xpose s = .next t →
    t.pmBytes 0 (16 * s.w) = transposeLoops s ∧
    ∀ a < 16 * s.w, ∀ k < 8,
      (mbit (t.pmByte a) k = true ↔
        (s.padtop ≤ 8 * (a % 16) + k ∧ 8 * (a % 16) + k < s.padtop + s.h) ∧
          s.pixel (8 * (a % 16) + k - s.padtop) (a / 16) = true)

/-- R109: for `H < 128` the image is centred: Bitmap row `r` lands on Pattern row `(128 - H) / 2 + r`, and every Pattern
row before and after the image is zero in every column. -/
def Obligations.ImageIsCentred : Prop :=
  ∀ s t : State, s.fatal = false → s.w ≠ 0 → s.GeometryAgrees → exec .xpose s = .next t →
    ∀ x < s.w,
      (∀ r < s.h, mbit (t.pmByte (x * 16 + ((128 - s.h) / 2 + r) / 8)) (((128 - s.h) / 2 + r) % 8) = s.pixel r x) ∧
      (∀ p < 128, p < (128 - s.h) / 2 ∨ (128 - s.h) / 2 + s.h ≤ p → mbit (t.pmByte (x * 16 + p / 8)) (p % 8) = false)

/-- The spec's inference R114: for a Bitmap of at most 128 rows, untransposing what XPOSE wrote gives every pixel back, and
gives BM's live bytes back exactly when the Bitmap's pad bits were 0. -/
def Obligations.UntransposeGivesBitmapBack : Prop :=
  ∀ s t : State, s.fatal = false → s.w ≠ 0 → s.hin ≤ 128 → s.GeometryAgrees → exec .xpose s = .next t →
    (∀ r < s.h, ∀ x < s.w, t.pixelBack r x = s.pixel r x) ∧
    ((∀ a < s.stride * s.hin, t.untransposeByte a = s.bmByte a) ↔
      ∀ r < s.hin, ∀ x, s.w ≤ x → x < 8 * s.stride → s.pixel r x = false)

/-- R110, R111: pad bits and rows from `H` on have no effect: two Bitmaps of one geometry with the same pixels in rows
below `H` and columns below `W` give the same Pattern. -/
def Obligations.PadBitsAndDroppedRowsIgnored : Prop :=
  ∀ s1 s2 t1 t2 : State, s1.fatal = false → s2.fatal = false → s1.w ≠ 0 →
    s2.w = s1.w → s2.h = s1.h → s2.padtop = s1.padtop →
    (∀ r < s1.h, ∀ x < s1.w, s2.pixel r x = s1.pixel r x) →
    exec .xpose s1 = .next t1 → exec .xpose s2 = .next t2 →
    ∀ a < 16 * s1.w, t2.pmByte a = t1.pmByte a

/-- R108: running XPOSE again with BM unchanged gives the same PM. -/
def Obligations.XposeAgainGivesTheSame : Prop :=
  ∀ s t u : State, s.fatal = false → s.w ≠ 0 → exec .xpose s = .next t → exec .xpose t = .next u →
    ∀ a, u.pmByte a = t.pmByte a

/-- The spec's inference R115: PM's live part has as many 1 bits as the rows below `H` have set pixels, pad bits not
counted. -/
def Obligations.OnePixelOneBit : Prop :=
  ∀ s t : State, s.fatal = false → s.w ≠ 0 → s.GeometryAgrees → exec .xpose s = .next t →
    ((List.range (16 * s.w)).map fun a => (List.range 8).countP fun k => mbit (t.pmByte a) k).sum =
      ((List.range s.h).map fun r => (List.range s.w).countP fun x => s.pixel r x).sum

/-- The spec's inference R116 (C4): the 16 by 16 all-black Bitmap gives, in every column, FF in bytes 7 and 8 and 00 in the
other fourteen. -/
def Obligations.AllBlackSquare : Prop :=
  ∀ s t : State, s.fatal = false → s.w = 16 → s.h = 16 → s.padtop = 56 → s.stride = 2 →
    (∀ a < 32, s.bmByte a = 0xFF) → exec .xpose s = .next t →
    ∀ x < 16, ∀ g < 16, t.pmByte (16 * x + g) = if g = 7 ∨ g = 8 then 0xFF else 0x00

/-- R112: RDPM at a live address returns that byte of PM, whether or not PVALID is set, and has no side effect; at any other
it is refused with ADDR, and after FATAL with DEAD. -/
def Obligations.RdpmReturnsByte : Prop :=
  ∀ (s : State) (a : Nat),
    (s.fatal = false → a < s.n →
      exec (.rdpm a) s = .next { s with result := some (.ok (.byte (s.pmByte a))) }) ∧
    (s.fatal = false → s.n ≤ a → exec (.rdpm a) s = .next { s with result := some (.refused .addr) }) ∧
    (s.fatal = true → exec (.rdpm a) s = .next { s with result := some (.refused .dead) })

/-! ### Raster chunker -/

/-- The spec's inference R127, with R121's addresses: the blocks of the schedule carry the PM addresses `0 .. N - 1`, each
once and in order; each has 1 to 60 bytes, and none reaches over a page boundary. -/
def Obligations.ScheduleCoversThePattern : Prop :=
  ∀ n,
    (rasterSchedule n).flatMap Claims.blockAddresses = List.range n ∧
    ∀ a len, Item.block a len ∈ rasterSchedule n → 1 ≤ len ∧ len ≤ 60 ∧ a % 8192 + len ≤ 8192

/-- By R119, R121, R123, R126 and, for the schedule, the spec's inference R127: a RXFER whose every packet is written in full and answered with
ACK runs the whole schedule in order and no more, with PM's bytes as the block payloads, and ends with OK, `POS = N`,
`BLKLEN = 0`, `PAGECNT = 0`, the last response in RXBUF; the rest of the state but BLKBUF is unchanged. -/
def Obligations.RxferRunsTheSchedule : Prop :=
  ∀ (s : State) (trest : List TxAnswer) (rrest : List RxAnswer),
    s.fatal = false → s.pvalid = true → 1 ≤ s.n →
    s.txAnswers = (rasterSchedule s.n).map (fun i => .done (s.itemPacket i).length) ++ trest →
    s.rxAnswers = (rasterSchedule s.n).map (fun _ => .data [0x06]) ++ rrest →
    ∃ t, exec .rxfer s = .next t ∧ t.rxByte 0 = 0x06 ∧ (∀ a, 1 ≤ a → t.rxByte a = s.rxByte a) ∧
      t = { s with
        pos := s.n
        blklen := 0
        pagecnt := 0
        rxlen := 1
        blkbuf := t.blkbuf
        rxbuf := t.rxbuf
        txAnswers := trest
        rxAnswers := rrest
        trace := s.trace ++ (rasterSchedule s.n).flatMap s.itemEvents
        result := some (.ok .none) }

/-- R124, with the schedule of the spec's inference R127: whatever the link answers, the packets of a RXFER are an initial
piece of the schedule, each once and in order; a
response that is not ACK is the last link call and the transfer's MISMATCH; a transport fault is the last link call and
sets FATAL; only a RXFER that sent the whole schedule returns OK. -/
def Obligations.RxferSendsAnInitialPiece : Prop :=
  ∀ s t : State, s.fatal = false → s.pvalid = true → exec .rxfer s = .next t →
    ∃ calls, Claims.Made s t calls ∧
      (∃ k ≤ (rasterSchedule s.n).length,
        sentPackets calls = ((rasterSchedule s.n).take k).map s.itemPacket ∧
        (t.result = some (.ok .none) → k = (rasterSchedule s.n).length)) ∧
      (∀ j b, calls[j]? = some (.rx (.data b)) → b ≠ [0x06] →
        j + 1 = calls.length ∧ t.result = some (.mismatch b)) ∧
      (∀ j e, calls[j]? = some e → Claims.isFault e →
        j + 1 = calls.length ∧ t.result = some .fatal ∧ t.fatal = true)

/-- R126, the failing exchange named through the schedule of the spec's inference R127: a completed RXFER leaves `POS = N`, `BLKLEN = 0`, `PAGECNT = 0`; where one failed, POS counts the bytes in
acknowledged blocks, BLKLEN is the failed block's length or 0, and PAGECNT counts the bytes acknowledged since the last page
boundary. -/
def Obligations.RegistersAfterTransfer : Prop :=
  ∀ s t : State, s.fatal = false → s.pvalid = true → exec .rxfer s = .next t →
    (t.result = some (.ok .none) → t.pos = s.n ∧ t.blklen = 0 ∧ t.pagecnt = 0) ∧
    (t.result = some .fatal ∨ (∃ b, t.result = some (.mismatch b)) →
      ∃ k item, (rasterSchedule s.n)[k]? = some item ∧
        sentPackets t.trace = sentPackets s.trace ++ ((rasterSchedule s.n).take (k + 1)).map s.itemPacket ∧
        t.pos = Claims.blockBytes ((rasterSchedule s.n).take k) ∧
        match item with
        | .block a len => t.pos = a ∧ t.blklen = len ∧ t.pagecnt = a % 8192
        | .rasterEnd => t.pos = s.n ∧ t.blklen = 0 ∧ t.pagecnt = Claims.pageFill s.n
        | .printPage => t.blklen = 0 ∧ t.pagecnt = Claims.pageFill t.pos)

/-- The spec's inference R125 (C3): a completed RXFER over `N ≥ 1` bytes sends `137 * (N / 8192) + ceil((N mod 8192) / 60)`
Raster blocks, `ceil(N / 8192)` Print pages, one Raster end, and consumes one response for each. -/
def Obligations.CompletedTransferCounts : Prop :=
  ∀ s t : State, s.fatal = false → s.pvalid = true → 1 ≤ s.n → exec .rxfer s = .next t →
    t.result = some (.ok .none) →
    ∃ calls, Claims.Made s t calls ∧
      (sentPackets calls).countP (fun p => p.length == 64) = 137 * (s.n / 8192) + (s.n % 8192 + 59) / 60 ∧
      (sentPackets calls).countP (fun p => p == [0x0C]) = (s.n + 8191) / 8192 ∧
      (sentPackets calls).countP (fun p => p.length == 16) = 1 ∧
      ((sentPackets calls).map List.length).sum =
        64 * (137 * (s.n / 8192) + (s.n % 8192 + 59) / 60) + 16 + (s.n + 8191) / 8192 ∧
      calls.length = 2 * (sentPackets calls).length

/-- R120 and the spec's inference R122 (log 11): the block-by-block meaning of RXFER ends, for every behaviour of the link, in
exactly the state in which the byte-by-byte algorithm ends, which takes each frame from BLKBUF. -/
def Obligations.RxferIsTheByteLoop : Prop :=
  ∀ s : State, s.fatal = false → s.pvalid = true → 1 ≤ s.n → s.blkbuf.wf →
    exec .rxfer s = .next (byteTransfer s)

/-- R176, R122: RXFER is the sequence of its exchange steps, as many as the schedule (the spec's inference R127) has
exchanges at most, and the machine keeps its invariant between any two of them. -/
def Obligations.RxferIsItsExchangeSteps : Prop :=
  (∀ (s : State) (j : Nat), (rasterSchedule s.n).length ≤ j → exec .rxfer s = .next (s.rxferUpTo j)) ∧
  (∀ (s : State) (j : Nat), s.Inv → s.waiting = none → (s.rxferUpTo j).Inv)

/-- R155, R176 (log 11): a reset that arrives between two exchanges of a RXFER ends it without a result: the exchanges before
it, and nothing of the next one, were handed to the link, and the block is as reset leaves it. -/
def Obligations.ResetBetweenExchanges : Prop :=
  ∀ (s : State) (r : Request) (j : Nat) (rest : List HostInput) (trest : List TxAnswer) (rrest : List RxAnswer),
    s.waiting = none → s.host = .opReset r j :: rest → decode r = .ok .rxfer →
    s.fatal = false → s.pvalid = true → j ≤ (rasterSchedule s.n).length →
    s.txAnswers = ((rasterSchedule s.n).take j).map (fun i => .done (s.itemPacket i).length) ++ trest →
    s.rxAnswers = ((rasterSchedule s.n).take j).map (fun _ => .data [0x06]) ++ rrest →
    step s = .next { State.reset with
      host := rest
      txAnswers := trest
      rxAnswers := rrest
      trace := s.trace ++ ((rasterSchedule s.n).take j).flatMap s.itemEvents
      epoch := s.epoch + 1
      imageEpoch := s.imageEpoch + 1 }
end

