-- ==== Sys2Proof/Laws/Decode.lean ====
section
/-! SUPPORT. Laws of the operand carriage (log 1): each operand read back from its encoding, with the bytes after it. -/

namespace Sys2Proof

theorem takeNat_natDigits (fuel n : Nat) (h : n ≤ fuel) (r : List Byte) :
    takeNat (natDigits fuel n ++ r) = some (n, r) := by
  induction fuel generalizing n with
  | zero =>
    have : n = 0 := by omega
    subst this
    rfl
  | succ fuel ih =>
    unfold natDigits
    split
    · rename_i hn
      have : (BitVec.ofNat 8 n).toNat = n := by simp; omega
      simp [takeNat, this, hn, -BitVec.toNat_ofNat]
    · rename_i hn
      have h1 : (BitVec.ofNat 8 (128 + n % 128)).toNat = 128 + n % 128 := by simp; omega
      have h2 := ih (n / 128) (by omega)
      have h3 : n % 128 + 128 * (n / 128) = n := Nat.mod_add_div n 128
      simp [takeNat, h1, h2, h3, -BitVec.toNat_ofNat]

theorem takeNat_putNat (n : Nat) (r : List Byte) : takeNat (putNat n ++ r) = some (n, r) :=
  takeNat_natDigits n n le_rfl r

theorem takeString_putString (b r : List Byte) (h : b.length ≤ 255) :
    takeString (putString b ++ r) = some (b, r) := by
  have : (BitVec.ofNat 8 b.length).toNat = b.length := by simp; omega
  simp [putString, takeString, this, -BitVec.toNat_ofNat]

theorem toNat_byteOperand {n : Nat} (h : n ≤ 255) : (BitVec.ofNat 8 n).toNat = n := by simp; omega

theorem ofOpsel_opsel (op : HostOp) : HostOp.ofOpsel op.opsel = some op := by cases op <;> decide

theorem ofOpsel_some {b : Byte} {op : HostOp} (h : HostOp.ofOpsel b = some op) : op.opsel = b := by
  simpa using List.find?_some h

/-! ### Wire frames -/

/-- The parameter bytes are found again at their places in the packet. -/
theorem paramsOf_packet {c : Cmd} {params : List Byte} (h : c.paramsOk params.length = true) :
    c.paramsOf (c.packet params) = params := by
  cases c
  case rasterblk =>
    simp only [Cmd.paramsOk, decide_eq_true_eq] at h
    have h1 : params.length % 256 = params.length := by omega
    simp [Cmd.packet, pad, Cmd.template, Cmd.tsize, Cmd.paramsOf, h1]
  case tapechk =>
    match params, h with
    | [_, _], _ => rfl
  case margin | density | cutter | prefeed =>
    match params, h with
    | [_], _ => rfl
  all_goals
    match params, h with
    | [], _ => rfl

/-- The opcode map finds the command of a packet again, which its length and first bytes decide. -/
theorem ofPacket_packet {c : Cmd} {params : List Byte} (h : (c.packet params).length = c.tsize) :
    Cmd.ofPacket (c.packet params) = some c := by
  unfold Cmd.ofPacket
  rw [h]
  cases c <;>
    simp [Cmd.all, Cmd.tsize, Cmd.opcode, List.isPrefixOf, Cmd.packet, pad, Cmd.template]

end Sys2Proof
end

