-- ==== Sys2Proof/Laws/State.lean ====
section
/-! SUPPORT. What each named update does to each field: one lemma per field per update, so that no proof unfolds a record
update. Generated in one shape; each holds by definition. -/

namespace Sys2Proof.Machine

variable (s : State)

@[simp] theorem ok_eq_finish (d : Data) : s.ok d = s.finish (.ok d) := rfl
@[simp] theorem refuse_eq_finish (r : Reason) : s.refuse r = s.finish (.refused r) := rfl

/-! ### finish -/

@[simp] theorem finish_w (r : Result) : (s.finish r).w = s.w := rfl
@[simp] theorem finish_hin (r : Result) : (s.finish r).hin = s.hin := rfl
@[simp] theorem finish_h (r : Result) : (s.finish r).h = s.h := rfl
@[simp] theorem finish_padtop (r : Result) : (s.finish r).padtop = s.padtop := rfl
@[simp] theorem finish_stride (r : Result) : (s.finish r).stride = s.stride := rfl
@[simp] theorem finish_n (r : Result) : (s.finish r).n = s.n := rfl
@[simp] theorem finish_pos (r : Result) : (s.finish r).pos = s.pos := rfl
@[simp] theorem finish_blklen (r : Result) : (s.finish r).blklen = s.blklen := rfl
@[simp] theorem finish_pagecnt (r : Result) : (s.finish r).pagecnt = s.pagecnt := rfl
@[simp] theorem finish_rxlen (r : Result) : (s.finish r).rxlen = s.rxlen := rfl
@[simp] theorem finish_status (r : Result) : (s.finish r).status = s.status := rfl
@[simp] theorem finish_bm (r : Result) : (s.finish r).bm = s.bm := rfl
@[simp] theorem finish_pm (r : Result) : (s.finish r).pm = s.pm := rfl
@[simp] theorem finish_blkbuf (r : Result) : (s.finish r).blkbuf = s.blkbuf := rfl
@[simp] theorem finish_rxbuf (r : Result) : (s.finish r).rxbuf = s.rxbuf := rfl
@[simp] theorem finish_result (r : Result) : (s.finish r).result = some r := rfl
@[simp] theorem finish_waiting (r : Result) : (s.finish r).waiting = s.waiting := rfl
@[simp] theorem finish_host (r : Result) : (s.finish r).host = s.host := rfl
@[simp] theorem finish_txAnswers (r : Result) : (s.finish r).txAnswers = s.txAnswers := rfl
@[simp] theorem finish_rxAnswers (r : Result) : (s.finish r).rxAnswers = s.rxAnswers := rfl
@[simp] theorem finish_trace (r : Result) : (s.finish r).trace = s.trace := rfl
@[simp] theorem finish_epoch (r : Result) : (s.finish r).epoch = s.epoch := rfl
@[simp] theorem finish_imageEpoch (r : Result) : (s.finish r).imageEpoch = s.imageEpoch := rfl
@[simp] theorem finish_pvalid (r : Result) : (s.finish r).pvalid = s.pvalid := rfl
@[simp] theorem finish_trunc (r : Result) : (s.finish r).trunc = s.trunc := rfl
@[simp] theorem finish_fatal (r : Result) : (s.finish r).fatal = s.fatal := rfl
@[simp] theorem finish_bmByte (r : Result) (i : Nat) : (s.finish r).bmByte i = s.bmByte i := rfl
@[simp] theorem finish_pmByte (r : Result) (i : Nat) : (s.finish r).pmByte i = s.pmByte i := rfl
@[simp] theorem finish_txAnswer (r : Result) (q : List Byte) : (s.finish r).txAnswer q = s.txAnswer q := rfl
@[simp] theorem finish_rxAnswer (r : Result) : (s.finish r).rxAnswer = s.rxAnswer := rfl

/-! ### transportFault -/

@[simp] theorem transportFault_w : (s.transportFault).w = s.w := rfl
@[simp] theorem transportFault_hin : (s.transportFault).hin = s.hin := rfl
@[simp] theorem transportFault_h : (s.transportFault).h = s.h := rfl
@[simp] theorem transportFault_padtop : (s.transportFault).padtop = s.padtop := rfl
@[simp] theorem transportFault_stride : (s.transportFault).stride = s.stride := rfl
@[simp] theorem transportFault_n : (s.transportFault).n = s.n := rfl
@[simp] theorem transportFault_pos : (s.transportFault).pos = s.pos := rfl
@[simp] theorem transportFault_blklen : (s.transportFault).blklen = s.blklen := rfl
@[simp] theorem transportFault_pagecnt : (s.transportFault).pagecnt = s.pagecnt := rfl
@[simp] theorem transportFault_rxlen : (s.transportFault).rxlen = s.rxlen := rfl
@[simp] theorem transportFault_status : (s.transportFault).status = statusFault s.status := rfl
@[simp] theorem transportFault_bm : (s.transportFault).bm = s.bm := rfl
@[simp] theorem transportFault_pm : (s.transportFault).pm = s.pm := rfl
@[simp] theorem transportFault_blkbuf : (s.transportFault).blkbuf = s.blkbuf := rfl
@[simp] theorem transportFault_rxbuf : (s.transportFault).rxbuf = s.rxbuf := rfl
@[simp] theorem transportFault_result : (s.transportFault).result = some .fatal := rfl
@[simp] theorem transportFault_waiting : (s.transportFault).waiting = s.waiting := rfl
@[simp] theorem transportFault_host : (s.transportFault).host = s.host := rfl
@[simp] theorem transportFault_txAnswers : (s.transportFault).txAnswers = s.txAnswers := rfl
@[simp] theorem transportFault_rxAnswers : (s.transportFault).rxAnswers = s.rxAnswers := rfl
@[simp] theorem transportFault_trace : (s.transportFault).trace = s.trace := rfl
@[simp] theorem transportFault_epoch : (s.transportFault).epoch = s.epoch := rfl
@[simp] theorem transportFault_imageEpoch : (s.transportFault).imageEpoch = s.imageEpoch := rfl
@[simp] theorem transportFault_bmByte (i : Nat) : (s.transportFault).bmByte i = s.bmByte i := rfl
@[simp] theorem transportFault_pmByte (i : Nat) : (s.transportFault).pmByte i = s.pmByte i := rfl
@[simp] theorem transportFault_txAnswer (q : List Byte) : (s.transportFault).txAnswer q = s.txAnswer q := rfl
@[simp] theorem transportFault_rxAnswer : (s.transportFault).rxAnswer = s.rxAnswer := rfl

/-! ### stall -/

@[simp] theorem stall_w (x : Wait) : (s.stall x).w = s.w := rfl
@[simp] theorem stall_hin (x : Wait) : (s.stall x).hin = s.hin := rfl
@[simp] theorem stall_h (x : Wait) : (s.stall x).h = s.h := rfl
@[simp] theorem stall_padtop (x : Wait) : (s.stall x).padtop = s.padtop := rfl
@[simp] theorem stall_stride (x : Wait) : (s.stall x).stride = s.stride := rfl
@[simp] theorem stall_n (x : Wait) : (s.stall x).n = s.n := rfl
@[simp] theorem stall_pos (x : Wait) : (s.stall x).pos = s.pos := rfl
@[simp] theorem stall_blklen (x : Wait) : (s.stall x).blklen = s.blklen := rfl
@[simp] theorem stall_pagecnt (x : Wait) : (s.stall x).pagecnt = s.pagecnt := rfl
@[simp] theorem stall_rxlen (x : Wait) : (s.stall x).rxlen = s.rxlen := rfl
@[simp] theorem stall_status (x : Wait) : (s.stall x).status = s.status := rfl
@[simp] theorem stall_bm (x : Wait) : (s.stall x).bm = s.bm := rfl
@[simp] theorem stall_pm (x : Wait) : (s.stall x).pm = s.pm := rfl
@[simp] theorem stall_blkbuf (x : Wait) : (s.stall x).blkbuf = s.blkbuf := rfl
@[simp] theorem stall_rxbuf (x : Wait) : (s.stall x).rxbuf = s.rxbuf := rfl
@[simp] theorem stall_result (x : Wait) : (s.stall x).result = none := rfl
@[simp] theorem stall_waiting (x : Wait) : (s.stall x).waiting = some x := rfl
@[simp] theorem stall_host (x : Wait) : (s.stall x).host = s.host := rfl
@[simp] theorem stall_txAnswers (x : Wait) : (s.stall x).txAnswers = s.txAnswers := rfl
@[simp] theorem stall_rxAnswers (x : Wait) : (s.stall x).rxAnswers = s.rxAnswers := rfl
@[simp] theorem stall_trace (x : Wait) : (s.stall x).trace = s.trace := rfl
@[simp] theorem stall_epoch (x : Wait) : (s.stall x).epoch = s.epoch := rfl
@[simp] theorem stall_imageEpoch (x : Wait) : (s.stall x).imageEpoch = s.imageEpoch := rfl
@[simp] theorem stall_pvalid (x : Wait) : (s.stall x).pvalid = s.pvalid := rfl
@[simp] theorem stall_trunc (x : Wait) : (s.stall x).trunc = s.trunc := rfl
@[simp] theorem stall_fatal (x : Wait) : (s.stall x).fatal = s.fatal := rfl
@[simp] theorem stall_bmByte (x : Wait) (i : Nat) : (s.stall x).bmByte i = s.bmByte i := rfl
@[simp] theorem stall_pmByte (x : Wait) (i : Nat) : (s.stall x).pmByte i = s.pmByte i := rfl
@[simp] theorem stall_txAnswer (x : Wait) (q : List Byte) : (s.stall x).txAnswer q = s.txAnswer q := rfl
@[simp] theorem stall_rxAnswer (x : Wait) : (s.stall x).rxAnswer = s.rxAnswer := rfl

/-! ### setGeometry -/

@[simp] theorem setGeometry_w (x y : Nat) : (s.setGeometry x y).w = x := rfl
@[simp] theorem setGeometry_hin (x y : Nat) : (s.setGeometry x y).hin = y := rfl
@[simp] theorem setGeometry_h (x y : Nat) : (s.setGeometry x y).h = geomH y := rfl
@[simp] theorem setGeometry_padtop (x y : Nat) : (s.setGeometry x y).padtop = geomPadtop y := rfl
@[simp] theorem setGeometry_stride (x y : Nat) : (s.setGeometry x y).stride = geomStride x := rfl
@[simp] theorem setGeometry_n (x y : Nat) : (s.setGeometry x y).n = geomN x := rfl
@[simp] theorem setGeometry_pos (x y : Nat) : (s.setGeometry x y).pos = s.pos := rfl
@[simp] theorem setGeometry_blklen (x y : Nat) : (s.setGeometry x y).blklen = s.blklen := rfl
@[simp] theorem setGeometry_pagecnt (x y : Nat) : (s.setGeometry x y).pagecnt = s.pagecnt := rfl
@[simp] theorem setGeometry_rxlen (x y : Nat) : (s.setGeometry x y).rxlen = s.rxlen := rfl
@[simp] theorem setGeometry_status (x y : Nat) : (s.setGeometry x y).status = statusNewGeometry s.status := rfl
@[simp] theorem setGeometry_bm (x y : Nat) : (s.setGeometry x y).bm = [] := rfl
@[simp] theorem setGeometry_pm (x y : Nat) : (s.setGeometry x y).pm = [] := rfl
@[simp] theorem setGeometry_blkbuf (x y : Nat) : (s.setGeometry x y).blkbuf = s.blkbuf := rfl
@[simp] theorem setGeometry_rxbuf (x y : Nat) : (s.setGeometry x y).rxbuf = s.rxbuf := rfl
@[simp] theorem setGeometry_result (x y : Nat) : (s.setGeometry x y).result = s.result := rfl
@[simp] theorem setGeometry_waiting (x y : Nat) : (s.setGeometry x y).waiting = s.waiting := rfl
@[simp] theorem setGeometry_host (x y : Nat) : (s.setGeometry x y).host = s.host := rfl
@[simp] theorem setGeometry_txAnswers (x y : Nat) : (s.setGeometry x y).txAnswers = s.txAnswers := rfl
@[simp] theorem setGeometry_rxAnswers (x y : Nat) : (s.setGeometry x y).rxAnswers = s.rxAnswers := rfl
@[simp] theorem setGeometry_trace (x y : Nat) : (s.setGeometry x y).trace = s.trace := rfl
@[simp] theorem setGeometry_epoch (x y : Nat) : (s.setGeometry x y).epoch = s.epoch := rfl
@[simp] theorem setGeometry_imageEpoch (x y : Nat) : (s.setGeometry x y).imageEpoch = s.imageEpoch + 1 := rfl
@[simp] theorem setGeometry_bmByte (x y : Nat) (i : Nat) :
    (s.setGeometry x y).bmByte i = Config.unspecified .bm (s.imageEpoch + 1) i := rfl
@[simp] theorem setGeometry_pmByte (x y : Nat) (i : Nat) :
    (s.setGeometry x y).pmByte i = Config.unspecified .pm (s.imageEpoch + 1) i := rfl
@[simp] theorem setGeometry_txAnswer (x y : Nat) (q : List Byte) : (s.setGeometry x y).txAnswer q = s.txAnswer q := rfl
@[simp] theorem setGeometry_rxAnswer (x y : Nat) : (s.setGeometry x y).rxAnswer = s.rxAnswer := rfl

/-! ### markXposed -/

@[simp] theorem markXposed_w : (s.markXposed).w = s.w := rfl
@[simp] theorem markXposed_hin : (s.markXposed).hin = s.hin := rfl
@[simp] theorem markXposed_h : (s.markXposed).h = s.h := rfl
@[simp] theorem markXposed_padtop : (s.markXposed).padtop = s.padtop := rfl
@[simp] theorem markXposed_stride : (s.markXposed).stride = s.stride := rfl
@[simp] theorem markXposed_n : (s.markXposed).n = s.n := rfl
@[simp] theorem markXposed_pos : (s.markXposed).pos = s.pos := rfl
@[simp] theorem markXposed_blklen : (s.markXposed).blklen = s.blklen := rfl
@[simp] theorem markXposed_pagecnt : (s.markXposed).pagecnt = s.pagecnt := rfl
@[simp] theorem markXposed_rxlen : (s.markXposed).rxlen = s.rxlen := rfl
@[simp] theorem markXposed_status : (s.markXposed).status = statusXposed s.hin s.status := rfl
@[simp] theorem markXposed_bm : (s.markXposed).bm = s.bm := rfl
@[simp] theorem markXposed_pm : (s.markXposed).pm = s.pm := rfl
@[simp] theorem markXposed_blkbuf : (s.markXposed).blkbuf = s.blkbuf := rfl
@[simp] theorem markXposed_rxbuf : (s.markXposed).rxbuf = s.rxbuf := rfl
@[simp] theorem markXposed_result : (s.markXposed).result = s.result := rfl
@[simp] theorem markXposed_waiting : (s.markXposed).waiting = s.waiting := rfl
@[simp] theorem markXposed_host : (s.markXposed).host = s.host := rfl
@[simp] theorem markXposed_txAnswers : (s.markXposed).txAnswers = s.txAnswers := rfl
@[simp] theorem markXposed_rxAnswers : (s.markXposed).rxAnswers = s.rxAnswers := rfl
@[simp] theorem markXposed_trace : (s.markXposed).trace = s.trace := rfl
@[simp] theorem markXposed_epoch : (s.markXposed).epoch = s.epoch := rfl
@[simp] theorem markXposed_imageEpoch : (s.markXposed).imageEpoch = s.imageEpoch := rfl
@[simp] theorem markXposed_bmByte (i : Nat) : (s.markXposed).bmByte i = s.bmByte i := rfl
@[simp] theorem markXposed_pmByte (i : Nat) : (s.markXposed).pmByte i = s.pmByte i := rfl
@[simp] theorem markXposed_txAnswer (q : List Byte) : (s.markXposed).txAnswer q = s.txAnswer q := rfl
@[simp] theorem markXposed_rxAnswer : (s.markXposed).rxAnswer = s.rxAnswer := rfl

/-! ### writeBm -/

@[simp] theorem writeBm_w (a : Nat) (v : Byte) : (s.writeBm a v).w = s.w := rfl
@[simp] theorem writeBm_hin (a : Nat) (v : Byte) : (s.writeBm a v).hin = s.hin := rfl
@[simp] theorem writeBm_h (a : Nat) (v : Byte) : (s.writeBm a v).h = s.h := rfl
@[simp] theorem writeBm_padtop (a : Nat) (v : Byte) : (s.writeBm a v).padtop = s.padtop := rfl
@[simp] theorem writeBm_stride (a : Nat) (v : Byte) : (s.writeBm a v).stride = s.stride := rfl
@[simp] theorem writeBm_n (a : Nat) (v : Byte) : (s.writeBm a v).n = s.n := rfl
@[simp] theorem writeBm_pos (a : Nat) (v : Byte) : (s.writeBm a v).pos = s.pos := rfl
@[simp] theorem writeBm_blklen (a : Nat) (v : Byte) : (s.writeBm a v).blklen = s.blklen := rfl
@[simp] theorem writeBm_pagecnt (a : Nat) (v : Byte) : (s.writeBm a v).pagecnt = s.pagecnt := rfl
@[simp] theorem writeBm_rxlen (a : Nat) (v : Byte) : (s.writeBm a v).rxlen = s.rxlen := rfl
@[simp] theorem writeBm_status (a : Nat) (v : Byte) : (s.writeBm a v).status = s.status := rfl
@[simp] theorem writeBm_bm (a : Nat) (v : Byte) : (s.writeBm a v).bm = s.bm.poke a v := rfl
@[simp] theorem writeBm_pm (a : Nat) (v : Byte) : (s.writeBm a v).pm = s.pm := rfl
@[simp] theorem writeBm_blkbuf (a : Nat) (v : Byte) : (s.writeBm a v).blkbuf = s.blkbuf := rfl
@[simp] theorem writeBm_rxbuf (a : Nat) (v : Byte) : (s.writeBm a v).rxbuf = s.rxbuf := rfl
@[simp] theorem writeBm_result (a : Nat) (v : Byte) : (s.writeBm a v).result = s.result := rfl
@[simp] theorem writeBm_waiting (a : Nat) (v : Byte) : (s.writeBm a v).waiting = s.waiting := rfl
@[simp] theorem writeBm_host (a : Nat) (v : Byte) : (s.writeBm a v).host = s.host := rfl
@[simp] theorem writeBm_txAnswers (a : Nat) (v : Byte) : (s.writeBm a v).txAnswers = s.txAnswers := rfl
@[simp] theorem writeBm_rxAnswers (a : Nat) (v : Byte) : (s.writeBm a v).rxAnswers = s.rxAnswers := rfl
@[simp] theorem writeBm_trace (a : Nat) (v : Byte) : (s.writeBm a v).trace = s.trace := rfl
@[simp] theorem writeBm_epoch (a : Nat) (v : Byte) : (s.writeBm a v).epoch = s.epoch := rfl
@[simp] theorem writeBm_imageEpoch (a : Nat) (v : Byte) : (s.writeBm a v).imageEpoch = s.imageEpoch := rfl
@[simp] theorem writeBm_pvalid (a : Nat) (v : Byte) : (s.writeBm a v).pvalid = s.pvalid := rfl
@[simp] theorem writeBm_trunc (a : Nat) (v : Byte) : (s.writeBm a v).trunc = s.trunc := rfl
@[simp] theorem writeBm_fatal (a : Nat) (v : Byte) : (s.writeBm a v).fatal = s.fatal := rfl
@[simp] theorem writeBm_pmByte (a : Nat) (v : Byte) (i : Nat) : (s.writeBm a v).pmByte i = s.pmByte i := rfl
@[simp] theorem writeBm_txAnswer (a : Nat) (v : Byte) (q : List Byte) : (s.writeBm a v).txAnswer q = s.txAnswer q := rfl
@[simp] theorem writeBm_rxAnswer (a : Nat) (v : Byte) : (s.writeBm a v).rxAnswer = s.rxAnswer := rfl

/-! ### writePm -/

@[simp] theorem writePm_w (bs : List Byte) : (s.writePm bs).w = s.w := rfl
@[simp] theorem writePm_hin (bs : List Byte) : (s.writePm bs).hin = s.hin := rfl
@[simp] theorem writePm_h (bs : List Byte) : (s.writePm bs).h = s.h := rfl
@[simp] theorem writePm_padtop (bs : List Byte) : (s.writePm bs).padtop = s.padtop := rfl
@[simp] theorem writePm_stride (bs : List Byte) : (s.writePm bs).stride = s.stride := rfl
@[simp] theorem writePm_n (bs : List Byte) : (s.writePm bs).n = s.n := rfl
@[simp] theorem writePm_pos (bs : List Byte) : (s.writePm bs).pos = s.pos := rfl
@[simp] theorem writePm_blklen (bs : List Byte) : (s.writePm bs).blklen = s.blklen := rfl
@[simp] theorem writePm_pagecnt (bs : List Byte) : (s.writePm bs).pagecnt = s.pagecnt := rfl
@[simp] theorem writePm_rxlen (bs : List Byte) : (s.writePm bs).rxlen = s.rxlen := rfl
@[simp] theorem writePm_status (bs : List Byte) : (s.writePm bs).status = s.status := rfl
@[simp] theorem writePm_bm (bs : List Byte) : (s.writePm bs).bm = s.bm := rfl
@[simp] theorem writePm_pm (bs : List Byte) : (s.writePm bs).pm = s.pm.pokeAll 0 bs := rfl
@[simp] theorem writePm_blkbuf (bs : List Byte) : (s.writePm bs).blkbuf = s.blkbuf := rfl
@[simp] theorem writePm_rxbuf (bs : List Byte) : (s.writePm bs).rxbuf = s.rxbuf := rfl
@[simp] theorem writePm_result (bs : List Byte) : (s.writePm bs).result = s.result := rfl
@[simp] theorem writePm_waiting (bs : List Byte) : (s.writePm bs).waiting = s.waiting := rfl
@[simp] theorem writePm_host (bs : List Byte) : (s.writePm bs).host = s.host := rfl
@[simp] theorem writePm_txAnswers (bs : List Byte) : (s.writePm bs).txAnswers = s.txAnswers := rfl
@[simp] theorem writePm_rxAnswers (bs : List Byte) : (s.writePm bs).rxAnswers = s.rxAnswers := rfl
@[simp] theorem writePm_trace (bs : List Byte) : (s.writePm bs).trace = s.trace := rfl
@[simp] theorem writePm_epoch (bs : List Byte) : (s.writePm bs).epoch = s.epoch := rfl
@[simp] theorem writePm_imageEpoch (bs : List Byte) : (s.writePm bs).imageEpoch = s.imageEpoch := rfl
@[simp] theorem writePm_pvalid (bs : List Byte) : (s.writePm bs).pvalid = s.pvalid := rfl
@[simp] theorem writePm_trunc (bs : List Byte) : (s.writePm bs).trunc = s.trunc := rfl
@[simp] theorem writePm_fatal (bs : List Byte) : (s.writePm bs).fatal = s.fatal := rfl
@[simp] theorem writePm_bmByte (bs : List Byte) (i : Nat) : (s.writePm bs).bmByte i = s.bmByte i := rfl
@[simp] theorem writePm_txAnswer (bs : List Byte) (q : List Byte) : (s.writePm bs).txAnswer q = s.txAnswer q := rfl
@[simp] theorem writePm_rxAnswer (bs : List Byte) : (s.writePm bs).rxAnswer = s.rxAnswer := rfl

/-! ### startTransfer -/

@[simp] theorem startTransfer_w : (s.startTransfer).w = s.w := rfl
@[simp] theorem startTransfer_hin : (s.startTransfer).hin = s.hin := rfl
@[simp] theorem startTransfer_h : (s.startTransfer).h = s.h := rfl
@[simp] theorem startTransfer_padtop : (s.startTransfer).padtop = s.padtop := rfl
@[simp] theorem startTransfer_stride : (s.startTransfer).stride = s.stride := rfl
@[simp] theorem startTransfer_n : (s.startTransfer).n = s.n := rfl
@[simp] theorem startTransfer_pos : (s.startTransfer).pos = 0 := rfl
@[simp] theorem startTransfer_blklen : (s.startTransfer).blklen = 0 := rfl
@[simp] theorem startTransfer_pagecnt : (s.startTransfer).pagecnt = 0 := rfl
@[simp] theorem startTransfer_rxlen : (s.startTransfer).rxlen = s.rxlen := rfl
@[simp] theorem startTransfer_status : (s.startTransfer).status = s.status := rfl
@[simp] theorem startTransfer_bm : (s.startTransfer).bm = s.bm := rfl
@[simp] theorem startTransfer_pm : (s.startTransfer).pm = s.pm := rfl
@[simp] theorem startTransfer_blkbuf : (s.startTransfer).blkbuf = s.blkbuf := rfl
@[simp] theorem startTransfer_rxbuf : (s.startTransfer).rxbuf = s.rxbuf := rfl
@[simp] theorem startTransfer_result : (s.startTransfer).result = s.result := rfl
@[simp] theorem startTransfer_waiting : (s.startTransfer).waiting = s.waiting := rfl
@[simp] theorem startTransfer_host : (s.startTransfer).host = s.host := rfl
@[simp] theorem startTransfer_txAnswers : (s.startTransfer).txAnswers = s.txAnswers := rfl
@[simp] theorem startTransfer_rxAnswers : (s.startTransfer).rxAnswers = s.rxAnswers := rfl
@[simp] theorem startTransfer_trace : (s.startTransfer).trace = s.trace := rfl
@[simp] theorem startTransfer_epoch : (s.startTransfer).epoch = s.epoch := rfl
@[simp] theorem startTransfer_imageEpoch : (s.startTransfer).imageEpoch = s.imageEpoch := rfl
@[simp] theorem startTransfer_pvalid : (s.startTransfer).pvalid = s.pvalid := rfl
@[simp] theorem startTransfer_trunc : (s.startTransfer).trunc = s.trunc := rfl
@[simp] theorem startTransfer_fatal : (s.startTransfer).fatal = s.fatal := rfl
@[simp] theorem startTransfer_bmByte (i : Nat) : (s.startTransfer).bmByte i = s.bmByte i := rfl
@[simp] theorem startTransfer_pmByte (i : Nat) : (s.startTransfer).pmByte i = s.pmByte i := rfl
@[simp] theorem startTransfer_txAnswer (q : List Byte) : (s.startTransfer).txAnswer q = s.txAnswer q := rfl
@[simp] theorem startTransfer_rxAnswer : (s.startTransfer).rxAnswer = s.rxAnswer := rfl

/-! ### buildBlock -/

@[simp] theorem buildBlock_w (len : Nat) (f : List Byte) : (s.buildBlock len f).w = s.w := rfl
@[simp] theorem buildBlock_hin (len : Nat) (f : List Byte) : (s.buildBlock len f).hin = s.hin := rfl
@[simp] theorem buildBlock_h (len : Nat) (f : List Byte) : (s.buildBlock len f).h = s.h := rfl
@[simp] theorem buildBlock_padtop (len : Nat) (f : List Byte) : (s.buildBlock len f).padtop = s.padtop := rfl
@[simp] theorem buildBlock_stride (len : Nat) (f : List Byte) : (s.buildBlock len f).stride = s.stride := rfl
@[simp] theorem buildBlock_n (len : Nat) (f : List Byte) : (s.buildBlock len f).n = s.n := rfl
@[simp] theorem buildBlock_pos (len : Nat) (f : List Byte) : (s.buildBlock len f).pos = s.pos := rfl
@[simp] theorem buildBlock_blklen (len : Nat) (f : List Byte) : (s.buildBlock len f).blklen = len := rfl
@[simp] theorem buildBlock_pagecnt (len : Nat) (f : List Byte) : (s.buildBlock len f).pagecnt = s.pagecnt := rfl
@[simp] theorem buildBlock_rxlen (len : Nat) (f : List Byte) : (s.buildBlock len f).rxlen = s.rxlen := rfl
@[simp] theorem buildBlock_status (len : Nat) (f : List Byte) : (s.buildBlock len f).status = s.status := rfl
@[simp] theorem buildBlock_bm (len : Nat) (f : List Byte) : (s.buildBlock len f).bm = s.bm := rfl
@[simp] theorem buildBlock_pm (len : Nat) (f : List Byte) : (s.buildBlock len f).pm = s.pm := rfl
@[simp] theorem buildBlock_blkbuf (len : Nat) (f : List Byte) : (s.buildBlock len f).blkbuf = s.blkbuf.pokeAll 0 f := rfl
@[simp] theorem buildBlock_rxbuf (len : Nat) (f : List Byte) : (s.buildBlock len f).rxbuf = s.rxbuf := rfl
@[simp] theorem buildBlock_result (len : Nat) (f : List Byte) : (s.buildBlock len f).result = s.result := rfl
@[simp] theorem buildBlock_waiting (len : Nat) (f : List Byte) : (s.buildBlock len f).waiting = s.waiting := rfl
@[simp] theorem buildBlock_host (len : Nat) (f : List Byte) : (s.buildBlock len f).host = s.host := rfl
@[simp] theorem buildBlock_txAnswers (len : Nat) (f : List Byte) : (s.buildBlock len f).txAnswers = s.txAnswers := rfl
@[simp] theorem buildBlock_rxAnswers (len : Nat) (f : List Byte) : (s.buildBlock len f).rxAnswers = s.rxAnswers := rfl
@[simp] theorem buildBlock_trace (len : Nat) (f : List Byte) : (s.buildBlock len f).trace = s.trace := rfl
@[simp] theorem buildBlock_epoch (len : Nat) (f : List Byte) : (s.buildBlock len f).epoch = s.epoch := rfl
@[simp] theorem buildBlock_imageEpoch (len : Nat) (f : List Byte) : (s.buildBlock len f).imageEpoch = s.imageEpoch := rfl
@[simp] theorem buildBlock_pvalid (len : Nat) (f : List Byte) : (s.buildBlock len f).pvalid = s.pvalid := rfl
@[simp] theorem buildBlock_trunc (len : Nat) (f : List Byte) : (s.buildBlock len f).trunc = s.trunc := rfl
@[simp] theorem buildBlock_fatal (len : Nat) (f : List Byte) : (s.buildBlock len f).fatal = s.fatal := rfl
@[simp] theorem buildBlock_bmByte (len : Nat) (f : List Byte) (i : Nat) : (s.buildBlock len f).bmByte i = s.bmByte i := rfl
@[simp] theorem buildBlock_pmByte (len : Nat) (f : List Byte) (i : Nat) : (s.buildBlock len f).pmByte i = s.pmByte i := rfl
@[simp] theorem buildBlock_txAnswer (len : Nat) (f : List Byte) (q : List Byte) : (s.buildBlock len f).txAnswer q = s.txAnswer q := rfl
@[simp] theorem buildBlock_rxAnswer (len : Nat) (f : List Byte) : (s.buildBlock len f).rxAnswer = s.rxAnswer := rfl

/-! ### ackBlock -/

@[simp] theorem ackBlock_w : (s.ackBlock).w = s.w := rfl
@[simp] theorem ackBlock_hin : (s.ackBlock).hin = s.hin := rfl
@[simp] theorem ackBlock_h : (s.ackBlock).h = s.h := rfl
@[simp] theorem ackBlock_padtop : (s.ackBlock).padtop = s.padtop := rfl
@[simp] theorem ackBlock_stride : (s.ackBlock).stride = s.stride := rfl
@[simp] theorem ackBlock_n : (s.ackBlock).n = s.n := rfl
@[simp] theorem ackBlock_pos : (s.ackBlock).pos = s.pos + s.blklen := rfl
@[simp] theorem ackBlock_blklen : (s.ackBlock).blklen = 0 := rfl
@[simp] theorem ackBlock_pagecnt : (s.ackBlock).pagecnt = s.pagecnt + s.blklen := rfl
@[simp] theorem ackBlock_rxlen : (s.ackBlock).rxlen = s.rxlen := rfl
@[simp] theorem ackBlock_status : (s.ackBlock).status = s.status := rfl
@[simp] theorem ackBlock_bm : (s.ackBlock).bm = s.bm := rfl
@[simp] theorem ackBlock_pm : (s.ackBlock).pm = s.pm := rfl
@[simp] theorem ackBlock_blkbuf : (s.ackBlock).blkbuf = s.blkbuf := rfl
@[simp] theorem ackBlock_rxbuf : (s.ackBlock).rxbuf = s.rxbuf := rfl
@[simp] theorem ackBlock_result : (s.ackBlock).result = s.result := rfl
@[simp] theorem ackBlock_waiting : (s.ackBlock).waiting = s.waiting := rfl
@[simp] theorem ackBlock_host : (s.ackBlock).host = s.host := rfl
@[simp] theorem ackBlock_txAnswers : (s.ackBlock).txAnswers = s.txAnswers := rfl
@[simp] theorem ackBlock_rxAnswers : (s.ackBlock).rxAnswers = s.rxAnswers := rfl
@[simp] theorem ackBlock_trace : (s.ackBlock).trace = s.trace := rfl
@[simp] theorem ackBlock_epoch : (s.ackBlock).epoch = s.epoch := rfl
@[simp] theorem ackBlock_imageEpoch : (s.ackBlock).imageEpoch = s.imageEpoch := rfl
@[simp] theorem ackBlock_pvalid : (s.ackBlock).pvalid = s.pvalid := rfl
@[simp] theorem ackBlock_trunc : (s.ackBlock).trunc = s.trunc := rfl
@[simp] theorem ackBlock_fatal : (s.ackBlock).fatal = s.fatal := rfl
@[simp] theorem ackBlock_bmByte (i : Nat) : (s.ackBlock).bmByte i = s.bmByte i := rfl
@[simp] theorem ackBlock_pmByte (i : Nat) : (s.ackBlock).pmByte i = s.pmByte i := rfl
@[simp] theorem ackBlock_txAnswer (q : List Byte) : (s.ackBlock).txAnswer q = s.txAnswer q := rfl
@[simp] theorem ackBlock_rxAnswer : (s.ackBlock).rxAnswer = s.rxAnswer := rfl

/-! ### endPage -/

@[simp] theorem endPage_w : (s.endPage).w = s.w := rfl
@[simp] theorem endPage_hin : (s.endPage).hin = s.hin := rfl
@[simp] theorem endPage_h : (s.endPage).h = s.h := rfl
@[simp] theorem endPage_padtop : (s.endPage).padtop = s.padtop := rfl
@[simp] theorem endPage_stride : (s.endPage).stride = s.stride := rfl
@[simp] theorem endPage_n : (s.endPage).n = s.n := rfl
@[simp] theorem endPage_pos : (s.endPage).pos = s.pos := rfl
@[simp] theorem endPage_blklen : (s.endPage).blklen = s.blklen := rfl
@[simp] theorem endPage_pagecnt : (s.endPage).pagecnt = 0 := rfl
@[simp] theorem endPage_rxlen : (s.endPage).rxlen = s.rxlen := rfl
@[simp] theorem endPage_status : (s.endPage).status = s.status := rfl
@[simp] theorem endPage_bm : (s.endPage).bm = s.bm := rfl
@[simp] theorem endPage_pm : (s.endPage).pm = s.pm := rfl
@[simp] theorem endPage_blkbuf : (s.endPage).blkbuf = s.blkbuf := rfl
@[simp] theorem endPage_rxbuf : (s.endPage).rxbuf = s.rxbuf := rfl
@[simp] theorem endPage_result : (s.endPage).result = s.result := rfl
@[simp] theorem endPage_waiting : (s.endPage).waiting = s.waiting := rfl
@[simp] theorem endPage_host : (s.endPage).host = s.host := rfl
@[simp] theorem endPage_txAnswers : (s.endPage).txAnswers = s.txAnswers := rfl
@[simp] theorem endPage_rxAnswers : (s.endPage).rxAnswers = s.rxAnswers := rfl
@[simp] theorem endPage_trace : (s.endPage).trace = s.trace := rfl
@[simp] theorem endPage_epoch : (s.endPage).epoch = s.epoch := rfl
@[simp] theorem endPage_imageEpoch : (s.endPage).imageEpoch = s.imageEpoch := rfl
@[simp] theorem endPage_pvalid : (s.endPage).pvalid = s.pvalid := rfl
@[simp] theorem endPage_trunc : (s.endPage).trunc = s.trunc := rfl
@[simp] theorem endPage_fatal : (s.endPage).fatal = s.fatal := rfl
@[simp] theorem endPage_bmByte (i : Nat) : (s.endPage).bmByte i = s.bmByte i := rfl
@[simp] theorem endPage_pmByte (i : Nat) : (s.endPage).pmByte i = s.pmByte i := rfl
@[simp] theorem endPage_txAnswer (q : List Byte) : (s.endPage).txAnswer q = s.txAnswer q := rfl
@[simp] theorem endPage_rxAnswer : (s.endPage).rxAnswer = s.rxAnswer := rfl

/-! ### linkTx -/

@[simp] theorem linkTx_w (p : List Byte) : (s.linkTx p).w = s.w := rfl
@[simp] theorem linkTx_hin (p : List Byte) : (s.linkTx p).hin = s.hin := rfl
@[simp] theorem linkTx_h (p : List Byte) : (s.linkTx p).h = s.h := rfl
@[simp] theorem linkTx_padtop (p : List Byte) : (s.linkTx p).padtop = s.padtop := rfl
@[simp] theorem linkTx_stride (p : List Byte) : (s.linkTx p).stride = s.stride := rfl
@[simp] theorem linkTx_n (p : List Byte) : (s.linkTx p).n = s.n := rfl
@[simp] theorem linkTx_pos (p : List Byte) : (s.linkTx p).pos = s.pos := rfl
@[simp] theorem linkTx_blklen (p : List Byte) : (s.linkTx p).blklen = s.blklen := rfl
@[simp] theorem linkTx_pagecnt (p : List Byte) : (s.linkTx p).pagecnt = s.pagecnt := rfl
@[simp] theorem linkTx_rxlen (p : List Byte) : (s.linkTx p).rxlen = s.rxlen := rfl
@[simp] theorem linkTx_status (p : List Byte) : (s.linkTx p).status = s.status := rfl
@[simp] theorem linkTx_bm (p : List Byte) : (s.linkTx p).bm = s.bm := rfl
@[simp] theorem linkTx_pm (p : List Byte) : (s.linkTx p).pm = s.pm := rfl
@[simp] theorem linkTx_blkbuf (p : List Byte) : (s.linkTx p).blkbuf = s.blkbuf := rfl
@[simp] theorem linkTx_rxbuf (p : List Byte) : (s.linkTx p).rxbuf = s.rxbuf := rfl
@[simp] theorem linkTx_result (p : List Byte) : (s.linkTx p).result = s.result := rfl
@[simp] theorem linkTx_waiting (p : List Byte) : (s.linkTx p).waiting = s.waiting := rfl
@[simp] theorem linkTx_host (p : List Byte) : (s.linkTx p).host = s.host := rfl
@[simp] theorem linkTx_txAnswers (p : List Byte) : (s.linkTx p).txAnswers = s.txAnswers.tail := rfl
@[simp] theorem linkTx_rxAnswers (p : List Byte) : (s.linkTx p).rxAnswers = s.rxAnswers := rfl
@[simp] theorem linkTx_trace (p : List Byte) : (s.linkTx p).trace = s.trace ++ [.tx p (s.txAnswer p)] := rfl
@[simp] theorem linkTx_epoch (p : List Byte) : (s.linkTx p).epoch = s.epoch := rfl
@[simp] theorem linkTx_imageEpoch (p : List Byte) : (s.linkTx p).imageEpoch = s.imageEpoch := rfl
@[simp] theorem linkTx_pvalid (p : List Byte) : (s.linkTx p).pvalid = s.pvalid := rfl
@[simp] theorem linkTx_trunc (p : List Byte) : (s.linkTx p).trunc = s.trunc := rfl
@[simp] theorem linkTx_fatal (p : List Byte) : (s.linkTx p).fatal = s.fatal := rfl
@[simp] theorem linkTx_bmByte (p : List Byte) (i : Nat) : (s.linkTx p).bmByte i = s.bmByte i := rfl
@[simp] theorem linkTx_pmByte (p : List Byte) (i : Nat) : (s.linkTx p).pmByte i = s.pmByte i := rfl
@[simp] theorem linkTx_rxAnswer (p : List Byte) : (s.linkTx p).rxAnswer = s.rxAnswer := rfl

/-! ### linkRx -/

@[simp] theorem linkRx_w : (s.linkRx).w = s.w := rfl
@[simp] theorem linkRx_hin : (s.linkRx).hin = s.hin := rfl
@[simp] theorem linkRx_h : (s.linkRx).h = s.h := rfl
@[simp] theorem linkRx_padtop : (s.linkRx).padtop = s.padtop := rfl
@[simp] theorem linkRx_stride : (s.linkRx).stride = s.stride := rfl
@[simp] theorem linkRx_n : (s.linkRx).n = s.n := rfl
@[simp] theorem linkRx_pos : (s.linkRx).pos = s.pos := rfl
@[simp] theorem linkRx_blklen : (s.linkRx).blklen = s.blklen := rfl
@[simp] theorem linkRx_pagecnt : (s.linkRx).pagecnt = s.pagecnt := rfl
@[simp] theorem linkRx_rxlen : (s.linkRx).rxlen = s.rxlen := rfl
@[simp] theorem linkRx_status : (s.linkRx).status = s.status := rfl
@[simp] theorem linkRx_bm : (s.linkRx).bm = s.bm := rfl
@[simp] theorem linkRx_pm : (s.linkRx).pm = s.pm := rfl
@[simp] theorem linkRx_blkbuf : (s.linkRx).blkbuf = s.blkbuf := rfl
@[simp] theorem linkRx_rxbuf : (s.linkRx).rxbuf = s.rxbuf := rfl
@[simp] theorem linkRx_result : (s.linkRx).result = s.result := rfl
@[simp] theorem linkRx_waiting : (s.linkRx).waiting = s.waiting := rfl
@[simp] theorem linkRx_host : (s.linkRx).host = s.host := rfl
@[simp] theorem linkRx_txAnswers : (s.linkRx).txAnswers = s.txAnswers := rfl
@[simp] theorem linkRx_rxAnswers : (s.linkRx).rxAnswers = s.rxAnswers.tail := rfl
@[simp] theorem linkRx_trace : (s.linkRx).trace = s.trace ++ [.rx s.rxAnswer] := rfl
@[simp] theorem linkRx_epoch : (s.linkRx).epoch = s.epoch := rfl
@[simp] theorem linkRx_imageEpoch : (s.linkRx).imageEpoch = s.imageEpoch := rfl
@[simp] theorem linkRx_pvalid : (s.linkRx).pvalid = s.pvalid := rfl
@[simp] theorem linkRx_trunc : (s.linkRx).trunc = s.trunc := rfl
@[simp] theorem linkRx_fatal : (s.linkRx).fatal = s.fatal := rfl
@[simp] theorem linkRx_bmByte (i : Nat) : (s.linkRx).bmByte i = s.bmByte i := rfl
@[simp] theorem linkRx_pmByte (i : Nat) : (s.linkRx).pmByte i = s.pmByte i := rfl
@[simp] theorem linkRx_txAnswer (q : List Byte) : (s.linkRx).txAnswer q = s.txAnswer q := rfl

/-! ### storeResponse -/

@[simp] theorem storeResponse_w (b : List Byte) : (s.storeResponse b).w = s.w := rfl
@[simp] theorem storeResponse_hin (b : List Byte) : (s.storeResponse b).hin = s.hin := rfl
@[simp] theorem storeResponse_h (b : List Byte) : (s.storeResponse b).h = s.h := rfl
@[simp] theorem storeResponse_padtop (b : List Byte) : (s.storeResponse b).padtop = s.padtop := rfl
@[simp] theorem storeResponse_stride (b : List Byte) : (s.storeResponse b).stride = s.stride := rfl
@[simp] theorem storeResponse_n (b : List Byte) : (s.storeResponse b).n = s.n := rfl
@[simp] theorem storeResponse_pos (b : List Byte) : (s.storeResponse b).pos = s.pos := rfl
@[simp] theorem storeResponse_blklen (b : List Byte) : (s.storeResponse b).blklen = s.blklen := rfl
@[simp] theorem storeResponse_pagecnt (b : List Byte) : (s.storeResponse b).pagecnt = s.pagecnt := rfl
@[simp] theorem storeResponse_rxlen (b : List Byte) : (s.storeResponse b).rxlen = b.length := rfl
@[simp] theorem storeResponse_status (b : List Byte) : (s.storeResponse b).status = s.status := rfl
@[simp] theorem storeResponse_bm (b : List Byte) : (s.storeResponse b).bm = s.bm := rfl
@[simp] theorem storeResponse_pm (b : List Byte) : (s.storeResponse b).pm = s.pm := rfl
@[simp] theorem storeResponse_blkbuf (b : List Byte) : (s.storeResponse b).blkbuf = s.blkbuf := rfl
@[simp] theorem storeResponse_rxbuf (b : List Byte) : (s.storeResponse b).rxbuf = s.rxbuf.pokeAll 0 b := rfl
@[simp] theorem storeResponse_result (b : List Byte) : (s.storeResponse b).result = s.result := rfl
@[simp] theorem storeResponse_waiting (b : List Byte) : (s.storeResponse b).waiting = s.waiting := rfl
@[simp] theorem storeResponse_host (b : List Byte) : (s.storeResponse b).host = s.host := rfl
@[simp] theorem storeResponse_txAnswers (b : List Byte) : (s.storeResponse b).txAnswers = s.txAnswers := rfl
@[simp] theorem storeResponse_rxAnswers (b : List Byte) : (s.storeResponse b).rxAnswers = s.rxAnswers := rfl
@[simp] theorem storeResponse_trace (b : List Byte) : (s.storeResponse b).trace = s.trace := rfl
@[simp] theorem storeResponse_epoch (b : List Byte) : (s.storeResponse b).epoch = s.epoch := rfl
@[simp] theorem storeResponse_imageEpoch (b : List Byte) : (s.storeResponse b).imageEpoch = s.imageEpoch := rfl
@[simp] theorem storeResponse_pvalid (b : List Byte) : (s.storeResponse b).pvalid = s.pvalid := rfl
@[simp] theorem storeResponse_trunc (b : List Byte) : (s.storeResponse b).trunc = s.trunc := rfl
@[simp] theorem storeResponse_fatal (b : List Byte) : (s.storeResponse b).fatal = s.fatal := rfl
@[simp] theorem storeResponse_bmByte (b : List Byte) (i : Nat) : (s.storeResponse b).bmByte i = s.bmByte i := rfl
@[simp] theorem storeResponse_pmByte (b : List Byte) (i : Nat) : (s.storeResponse b).pmByte i = s.pmByte i := rfl
@[simp] theorem storeResponse_txAnswer (b : List Byte) (q : List Byte) : (s.storeResponse b).txAnswer q = s.txAnswer q := rfl
@[simp] theorem storeResponse_rxAnswer (b : List Byte) : (s.storeResponse b).rxAnswer = s.rxAnswer := rfl

/-! ### takeHost -/

@[simp] theorem takeHost_w : (s.takeHost).w = s.w := rfl
@[simp] theorem takeHost_hin : (s.takeHost).hin = s.hin := rfl
@[simp] theorem takeHost_h : (s.takeHost).h = s.h := rfl
@[simp] theorem takeHost_padtop : (s.takeHost).padtop = s.padtop := rfl
@[simp] theorem takeHost_stride : (s.takeHost).stride = s.stride := rfl
@[simp] theorem takeHost_n : (s.takeHost).n = s.n := rfl
@[simp] theorem takeHost_pos : (s.takeHost).pos = s.pos := rfl
@[simp] theorem takeHost_blklen : (s.takeHost).blklen = s.blklen := rfl
@[simp] theorem takeHost_pagecnt : (s.takeHost).pagecnt = s.pagecnt := rfl
@[simp] theorem takeHost_rxlen : (s.takeHost).rxlen = s.rxlen := rfl
@[simp] theorem takeHost_status : (s.takeHost).status = s.status := rfl
@[simp] theorem takeHost_bm : (s.takeHost).bm = s.bm := rfl
@[simp] theorem takeHost_pm : (s.takeHost).pm = s.pm := rfl
@[simp] theorem takeHost_blkbuf : (s.takeHost).blkbuf = s.blkbuf := rfl
@[simp] theorem takeHost_rxbuf : (s.takeHost).rxbuf = s.rxbuf := rfl
@[simp] theorem takeHost_result : (s.takeHost).result = s.result := rfl
@[simp] theorem takeHost_waiting : (s.takeHost).waiting = s.waiting := rfl
@[simp] theorem takeHost_host : (s.takeHost).host = s.host.tail := rfl
@[simp] theorem takeHost_txAnswers : (s.takeHost).txAnswers = s.txAnswers := rfl
@[simp] theorem takeHost_rxAnswers : (s.takeHost).rxAnswers = s.rxAnswers := rfl
@[simp] theorem takeHost_trace : (s.takeHost).trace = s.trace := rfl
@[simp] theorem takeHost_epoch : (s.takeHost).epoch = s.epoch := rfl
@[simp] theorem takeHost_imageEpoch : (s.takeHost).imageEpoch = s.imageEpoch := rfl
@[simp] theorem takeHost_pvalid : (s.takeHost).pvalid = s.pvalid := rfl
@[simp] theorem takeHost_trunc : (s.takeHost).trunc = s.trunc := rfl
@[simp] theorem takeHost_fatal : (s.takeHost).fatal = s.fatal := rfl
@[simp] theorem takeHost_bmByte (i : Nat) : (s.takeHost).bmByte i = s.bmByte i := rfl
@[simp] theorem takeHost_pmByte (i : Nat) : (s.takeHost).pmByte i = s.pmByte i := rfl
@[simp] theorem takeHost_txAnswer (q : List Byte) : (s.takeHost).txAnswer q = s.txAnswer q := rfl
@[simp] theorem takeHost_rxAnswer : (s.takeHost).rxAnswer = s.rxAnswer := rfl

/-! ### placeRequest -/

@[simp] theorem placeRequest_w (r : Request) : (s.placeRequest r).w = s.w := rfl
@[simp] theorem placeRequest_hin (r : Request) : (s.placeRequest r).hin = s.hin := rfl
@[simp] theorem placeRequest_h (r : Request) : (s.placeRequest r).h = s.h := rfl
@[simp] theorem placeRequest_padtop (r : Request) : (s.placeRequest r).padtop = s.padtop := rfl
@[simp] theorem placeRequest_stride (r : Request) : (s.placeRequest r).stride = s.stride := rfl
@[simp] theorem placeRequest_n (r : Request) : (s.placeRequest r).n = s.n := rfl
@[simp] theorem placeRequest_pos (r : Request) : (s.placeRequest r).pos = s.pos := rfl
@[simp] theorem placeRequest_blklen (r : Request) : (s.placeRequest r).blklen = s.blklen := rfl
@[simp] theorem placeRequest_pagecnt (r : Request) : (s.placeRequest r).pagecnt = s.pagecnt := rfl
@[simp] theorem placeRequest_rxlen (r : Request) : (s.placeRequest r).rxlen = s.rxlen := rfl
@[simp] theorem placeRequest_status (r : Request) : (s.placeRequest r).status = s.status := rfl
@[simp] theorem placeRequest_bm (r : Request) : (s.placeRequest r).bm = s.bm := rfl
@[simp] theorem placeRequest_pm (r : Request) : (s.placeRequest r).pm = s.pm := rfl
@[simp] theorem placeRequest_blkbuf (r : Request) : (s.placeRequest r).blkbuf = s.blkbuf := rfl
@[simp] theorem placeRequest_rxbuf (r : Request) : (s.placeRequest r).rxbuf = s.rxbuf := rfl
@[simp] theorem placeRequest_result (r : Request) : (s.placeRequest r).result = s.result := rfl
@[simp] theorem placeRequest_waiting (r : Request) : (s.placeRequest r).waiting = none := rfl
@[simp] theorem placeRequest_host (r : Request) : (s.placeRequest r).host = .op r :: s.host := rfl
@[simp] theorem placeRequest_txAnswers (r : Request) : (s.placeRequest r).txAnswers = s.txAnswers := rfl
@[simp] theorem placeRequest_rxAnswers (r : Request) : (s.placeRequest r).rxAnswers = s.rxAnswers := rfl
@[simp] theorem placeRequest_trace (r : Request) : (s.placeRequest r).trace = s.trace := rfl
@[simp] theorem placeRequest_epoch (r : Request) : (s.placeRequest r).epoch = s.epoch := rfl
@[simp] theorem placeRequest_imageEpoch (r : Request) : (s.placeRequest r).imageEpoch = s.imageEpoch := rfl
@[simp] theorem placeRequest_pvalid (r : Request) : (s.placeRequest r).pvalid = s.pvalid := rfl
@[simp] theorem placeRequest_trunc (r : Request) : (s.placeRequest r).trunc = s.trunc := rfl
@[simp] theorem placeRequest_fatal (r : Request) : (s.placeRequest r).fatal = s.fatal := rfl
@[simp] theorem placeRequest_bmByte (r : Request) (i : Nat) : (s.placeRequest r).bmByte i = s.bmByte i := rfl
@[simp] theorem placeRequest_pmByte (r : Request) (i : Nat) : (s.placeRequest r).pmByte i = s.pmByte i := rfl
@[simp] theorem placeRequest_txAnswer (r : Request) (q : List Byte) : (s.placeRequest r).txAnswer q = s.txAnswer q := rfl
@[simp] theorem placeRequest_rxAnswer (r : Request) : (s.placeRequest r).rxAnswer = s.rxAnswer := rfl

/-! ### accumulate -/

@[simp] theorem accumulate_w (i : Nat) : (s.accumulate i).w = s.w := rfl
@[simp] theorem accumulate_hin (i : Nat) : (s.accumulate i).hin = s.hin := rfl
@[simp] theorem accumulate_h (i : Nat) : (s.accumulate i).h = s.h := rfl
@[simp] theorem accumulate_padtop (i : Nat) : (s.accumulate i).padtop = s.padtop := rfl
@[simp] theorem accumulate_stride (i : Nat) : (s.accumulate i).stride = s.stride := rfl
@[simp] theorem accumulate_n (i : Nat) : (s.accumulate i).n = s.n := rfl
@[simp] theorem accumulate_pos (i : Nat) : (s.accumulate i).pos = s.pos := rfl
@[simp] theorem accumulate_blklen (i : Nat) : (s.accumulate i).blklen = s.blklen + 1 := rfl
@[simp] theorem accumulate_pagecnt (i : Nat) : (s.accumulate i).pagecnt = s.pagecnt := rfl
@[simp] theorem accumulate_rxlen (i : Nat) : (s.accumulate i).rxlen = s.rxlen := rfl
@[simp] theorem accumulate_status (i : Nat) : (s.accumulate i).status = s.status := rfl
@[simp] theorem accumulate_bm (i : Nat) : (s.accumulate i).bm = s.bm := rfl
@[simp] theorem accumulate_pm (i : Nat) : (s.accumulate i).pm = s.pm := rfl
@[simp] theorem accumulate_blkbuf (i : Nat) : (s.accumulate i).blkbuf = s.blkbuf.poke (4 + s.blklen) (s.pmByte i) := rfl
@[simp] theorem accumulate_rxbuf (i : Nat) : (s.accumulate i).rxbuf = s.rxbuf := rfl
@[simp] theorem accumulate_result (i : Nat) : (s.accumulate i).result = s.result := rfl
@[simp] theorem accumulate_waiting (i : Nat) : (s.accumulate i).waiting = s.waiting := rfl
@[simp] theorem accumulate_host (i : Nat) : (s.accumulate i).host = s.host := rfl
@[simp] theorem accumulate_txAnswers (i : Nat) : (s.accumulate i).txAnswers = s.txAnswers := rfl
@[simp] theorem accumulate_rxAnswers (i : Nat) : (s.accumulate i).rxAnswers = s.rxAnswers := rfl
@[simp] theorem accumulate_trace (i : Nat) : (s.accumulate i).trace = s.trace := rfl
@[simp] theorem accumulate_epoch (i : Nat) : (s.accumulate i).epoch = s.epoch := rfl
@[simp] theorem accumulate_imageEpoch (i : Nat) : (s.accumulate i).imageEpoch = s.imageEpoch := rfl
@[simp] theorem accumulate_pvalid (i : Nat) : (s.accumulate i).pvalid = s.pvalid := rfl
@[simp] theorem accumulate_trunc (i : Nat) : (s.accumulate i).trunc = s.trunc := rfl
@[simp] theorem accumulate_fatal (i : Nat) : (s.accumulate i).fatal = s.fatal := rfl
@[simp] theorem accumulate_bmByte (i : Nat) (j : Nat) : (s.accumulate i).bmByte j = s.bmByte j := rfl
@[simp] theorem accumulate_pmByte (i : Nat) (j : Nat) : (s.accumulate i).pmByte j = s.pmByte j := rfl
@[simp] theorem accumulate_txAnswer (i : Nat) (q : List Byte) : (s.accumulate i).txAnswer q = s.txAnswer q := rfl
@[simp] theorem accumulate_rxAnswer (i : Nat) : (s.accumulate i).rxAnswer = s.rxAnswer := rfl

/-! ### applyReset -/

@[simp] theorem applyReset_w : s.applyReset.w = 0 := rfl
@[simp] theorem applyReset_hin : s.applyReset.hin = 0 := rfl
@[simp] theorem applyReset_h : s.applyReset.h = 0 := rfl
@[simp] theorem applyReset_padtop : s.applyReset.padtop = 0 := rfl
@[simp] theorem applyReset_stride : s.applyReset.stride = 0 := rfl
@[simp] theorem applyReset_n : s.applyReset.n = 0 := rfl
@[simp] theorem applyReset_pos : s.applyReset.pos = 0 := rfl
@[simp] theorem applyReset_blklen : s.applyReset.blklen = 0 := rfl
@[simp] theorem applyReset_pagecnt : s.applyReset.pagecnt = 0 := rfl
@[simp] theorem applyReset_rxlen : s.applyReset.rxlen = 0 := rfl
@[simp] theorem applyReset_status : s.applyReset.status = 0 := rfl
@[simp] theorem applyReset_bm : s.applyReset.bm = [] := rfl
@[simp] theorem applyReset_pm : s.applyReset.pm = [] := rfl
@[simp] theorem applyReset_blkbuf : s.applyReset.blkbuf = [] := rfl
@[simp] theorem applyReset_rxbuf : s.applyReset.rxbuf = [] := rfl
@[simp] theorem applyReset_result : s.applyReset.result = none := rfl
@[simp] theorem applyReset_waiting : s.applyReset.waiting = none := rfl
@[simp] theorem applyReset_host : s.applyReset.host = s.host := rfl
@[simp] theorem applyReset_txAnswers : s.applyReset.txAnswers = s.txAnswers := rfl
@[simp] theorem applyReset_rxAnswers : s.applyReset.rxAnswers = s.rxAnswers := rfl
@[simp] theorem applyReset_trace : s.applyReset.trace = s.trace := rfl
@[simp] theorem applyReset_epoch : s.applyReset.epoch = s.epoch + 1 := rfl
@[simp] theorem applyReset_imageEpoch : s.applyReset.imageEpoch = s.imageEpoch + 1 := rfl

end Sys2Proof.Machine
end

