-- ==== Sys2Proof/Laws/Flags.lean ====
section
/-! SUPPORT. What each update of `STATUS` does to each flag (10_state.md R28). -/

namespace Sys2Proof.Machine

theorem flags_statusFault (f : BitVec 3) :
    (statusFault f).getLsbD 0 = f.getLsbD 0 ∧ (statusFault f).getLsbD 1 = f.getLsbD 1 ∧
      (statusFault f).getLsbD 2 = true := by
  revert f; decide

theorem flags_statusNewGeometry (f : BitVec 3) :
    (statusNewGeometry f).getLsbD 0 = false ∧ (statusNewGeometry f).getLsbD 1 = false ∧
      (statusNewGeometry f).getLsbD 2 = f.getLsbD 2 := by
  revert f; decide

theorem flags_putXposed (b : Bool) (f : BitVec 3) :
    (putFlag 0 true (putFlag 1 b f)).getLsbD 0 = true ∧ (putFlag 0 true (putFlag 1 b f)).getLsbD 1 = b ∧
      (putFlag 0 true (putFlag 1 b f)).getLsbD 2 = f.getLsbD 2 := by
  revert b f; decide

variable (s : State)

@[simp] theorem transportFault_pvalid : s.transportFault.pvalid = s.pvalid := (flags_statusFault s.status).1
@[simp] theorem transportFault_trunc : s.transportFault.trunc = s.trunc := (flags_statusFault s.status).2.1
@[simp] theorem transportFault_fatal : s.transportFault.fatal = true := (flags_statusFault s.status).2.2

@[simp] theorem setGeometry_pvalid (x y : Nat) : (s.setGeometry x y).pvalid = false :=
  (flags_statusNewGeometry s.status).1
@[simp] theorem setGeometry_trunc (x y : Nat) : (s.setGeometry x y).trunc = false :=
  (flags_statusNewGeometry s.status).2.1
@[simp] theorem setGeometry_fatal (x y : Nat) : (s.setGeometry x y).fatal = s.fatal :=
  (flags_statusNewGeometry s.status).2.2

@[simp] theorem markXposed_pvalid : s.markXposed.pvalid = true := (flags_putXposed _ s.status).1
@[simp] theorem markXposed_trunc : s.markXposed.trunc = decide (128 < s.hin) := (flags_putXposed _ s.status).2.1
@[simp] theorem markXposed_fatal : s.markXposed.fatal = s.fatal := (flags_putXposed _ s.status).2.2

@[simp] theorem applyReset_pvalid : s.applyReset.pvalid = false := by simp [State.pvalid]
@[simp] theorem applyReset_trunc : s.applyReset.trunc = false := by simp [State.trunc]
@[simp] theorem applyReset_fatal : s.applyReset.fatal = false := by simp [State.fatal]

end Sys2Proof.Machine
end

