-- ==== Sys2Proof/Laws/Mem.lean ====
section
/-! SUPPORT. The laws of a buffer: a read after a write to the same place gives the value written, a write leaves every
other place alone, and every write keeps the canonical form and the size. -/

namespace Sys2Proof.Machine

theorem peek_poke (m : Mem) (a x : Nat) (v : Byte) :
    (m.poke a v).peek x = if x = a then some v else m.peek x := by
  induction m with
  | nil => simp [Mem.poke, Mem.peek, eq_comm]
  | cons c rest ih =>
    obtain ⟨b, u⟩ := c
    simp only [Mem.poke]
    by_cases hx : x = a
    · subst hx
      by_cases h1 : x < b
      · simp [h1, Mem.peek]
      · by_cases h2 : b = x
        · simp [h2, Mem.peek]
        · simp [h1, h2, Mem.peek, ih]
    · have hx' : ¬ a = x := fun h => hx h.symm
      by_cases h1 : a < b
      · simp [h1, hx, hx', Mem.peek]
      · by_cases h2 : b = a
        · simp [h2, hx, hx', Mem.peek]
        · simp [h1, h2, hx, Mem.peek, ih]

@[simp] theorem peek_poke_same (m : Mem) (a : Nat) (v : Byte) : (m.poke a v).peek a = some v := by
  simp [peek_poke]

theorem peek_poke_other (m : Mem) {a x : Nat} (v : Byte) (h : x ≠ a) : (m.poke a v).peek x = m.peek x := by
  simp [peek_poke, h]

theorem peek_pokeAll (m : Mem) (a x : Nat) (bs : List Byte) :
    (m.pokeAll a bs).peek x = if a ≤ x ∧ x < a + bs.length then bs[x - a]? else m.peek x := by
  induction bs generalizing m a with
  | nil =>
    rw [if_neg (by simp only [List.length_nil]; omega)]; rfl
  | cons b rest ih =>
    rw [Mem.pokeAll, ih, peek_poke]
    by_cases h1 : x = a
    · subst h1; simp
    · by_cases h2 : a + 1 ≤ x ∧ x < a + 1 + rest.length
      · have h3 : a ≤ x ∧ x < a + (b :: rest).length := by simp; omega
        have h4 : x - a = (x - (a + 1)) + 1 := by omega
        rw [if_pos h2, if_pos h3, h4, List.getElem?_cons_succ]
      · have h3 : ¬(a ≤ x ∧ x < a + (b :: rest).length) := by simp; omega
        rw [if_neg h2, if_neg h3, if_neg h1]

/-- A byte read after a write. -/
theorem read_poke (m : Mem) (b : Buffer) (epoch a x : Nat) (v : Byte) :
    (m.poke a v).read b epoch x = if x = a then v else m.read b epoch x := by
  unfold Mem.read
  split
  · rename_i h
    subst h
    simp
  · rename_i h
    rw [peek_poke_other m v h]

theorem fst_mem_poke (m : Mem) (a : Nat) (v : Byte) (c : Host.Cell) (h : c ∈ m.poke a v) :
    c.1 = a ∨ c ∈ m := by
  induction m with
  | nil => simp [Mem.poke] at h; simp [h]
  | cons d rest ih =>
    obtain ⟨b, u⟩ := d
    simp only [Mem.poke] at h
    split_ifs at h <;> simp only [List.mem_cons] at h ⊢
    · rcases h with rfl | h <;> simp_all
    · rcases h with rfl | h <;> simp_all
    · rcases h with rfl | h
      · simp
      · rcases ih h with h | h <;> simp [h]

theorem wf_poke {m : Mem} (a : Nat) (v : Byte) (h : m.wf) : (m.poke a v).wf := by
  induction m with
  | nil => simp [Mem.poke, Mem.wf]
  | cons d rest ih =>
    obtain ⟨b, u⟩ := d
    simp only [Mem.wf, List.map_cons, List.pairwise_cons, List.mem_map, forall_exists_index, and_imp] at h
    simp only [Mem.poke]
    split_ifs with h1 h2
    · simp only [Mem.wf, List.map_cons, List.pairwise_cons, List.mem_cons, List.mem_map]
      refine ⟨?_, ?_, h.2⟩
      · rintro x (rfl | ⟨c, hc, rfl⟩)
        · exact h1
        · exact h1.trans (h.1 _ _ hc rfl)
      · rintro x ⟨c, hc, rfl⟩
        exact h.1 _ _ hc rfl
    · subst h2
      simp only [Mem.wf, List.map_cons, List.pairwise_cons, List.mem_map]
      exact ⟨fun x ⟨c, hc, hx⟩ => h.1 _ _ hc hx, h.2⟩
    · simp only [Mem.wf, List.map_cons, List.pairwise_cons, List.mem_map]
      refine ⟨?_, ih h.2⟩
      rintro x ⟨c, hc, rfl⟩
      rcases fst_mem_poke rest a v c hc with hc | hc
      · omega
      · exact h.1 _ _ hc rfl

theorem within_poke {m : Mem} {size : Nat} (a : Nat) (v : Byte) (h : m.Within size) (ha : a < size) :
    (m.poke a v).Within size := by
  intro c hc
  rcases fst_mem_poke m a v c hc with hc | hc
  · omega
  · exact h c hc

theorem kept_poke {m : Mem} {size : Nat} (a : Nat) (v : Byte) (h : m.Kept size) (ha : a < size) :
    (m.poke a v).Kept size := ⟨wf_poke a v h.1, within_poke a v h.2 ha⟩

theorem kept_pokeAll {m : Mem} {size : Nat} (a : Nat) (bs : List Byte) (h : m.Kept size)
    (ha : a + bs.length ≤ size) : (m.pokeAll a bs).Kept size := by
  induction bs generalizing m a with
  | nil => exact h
  | cons b rest ih =>
    simp only [List.length_cons] at ha
    exact ih (a + 1) (kept_poke a b h (by omega)) (by omega)

theorem wf_pokeAll {m : Mem} (a : Nat) (bs : List Byte) (h : m.wf) : (m.pokeAll a bs).wf := by
  induction bs generalizing m a with
  | nil => exact h
  | cons b rest ih => exact ih (a + 1) (wf_poke a b h)

@[simp] theorem kept_nil (size : Nat) : Mem.Kept [] size := ⟨List.Pairwise.nil, fun _ h => by cases h⟩

/-- Writing the same bytes in another order gives the same buffer: a canonical buffer is what it holds. -/
theorem wf_ext {m1 m2 : Mem} (h1 : m1.wf) (h2 : m2.wf) (h : ∀ a, m1.peek a = m2.peek a) : m1 = m2 := by
  induction m1 generalizing m2 with
  | nil =>
    cases m2 with
    | nil => rfl
    | cons d _ => have := h d.1; simp [Mem.peek] at this
  | cons c r1 ih =>
    obtain ⟨a, v⟩ := c
    cases m2 with
    | nil => have := h a; simp [Mem.peek] at this
    | cons d r2 =>
      obtain ⟨b, u⟩ := d
      have below : ∀ {x : Nat} {y : Byte} {r : Mem}, Mem.wf ((x, y) :: r) → ∀ z ≤ x, Mem.peek r z = none := by
        intro x y r hr z hz
        simp only [Mem.wf, List.map_cons, List.pairwise_cons, List.mem_map] at hr
        have hlt : ∀ c ∈ r, x < c.1 := fun c hc => hr.1 _ ⟨c, hc, rfl⟩
        clear hr
        induction r with
        | nil => rfl
        | cons e r ihr =>
          have he := hlt e (by simp)
          simp only [Mem.peek]
          rw [if_neg (by omega)]
          exact ihr fun c hc => hlt c (by simp [hc])
      have hab : a = b := by
        rcases Nat.lt_trichotomy a b with hlt | heq | hgt
        · have := h a
          simp only [Mem.peek, if_true, if_neg (Nat.ne_of_gt hlt)] at this
          rw [below h2 a hlt.le] at this
          cases this
        · exact heq
        · have := h b
          simp only [Mem.peek, if_true, if_neg (Nat.ne_of_gt hgt)] at this
          rw [below h1 b hgt.le] at this
          cases this
      subst hab
      have hv := h a
      simp only [Mem.peek, if_true, Option.some.injEq] at hv
      subst hv
      congr 1
      refine ih ?_ ?_ ?_
      · simp only [Mem.wf, List.map_cons, List.pairwise_cons] at h1; exact h1.2
      · simp only [Mem.wf, List.map_cons, List.pairwise_cons] at h2; exact h2.2
      · intro x
        by_cases hx : a = x
        · subst hx; rw [below h1 a le_rfl, below h2 a le_rfl]
        · have := h x; simpa [Mem.peek, hx] using this

end Sys2Proof.Machine
end

