-- ==== Sys2Proof/Laws/Operands.lean ====
section
/-! SUPPORT. Laws of the pure functions: bits of a byte (00_scope.md R7), padding and sizes (40_frame_formatter.md R71, R72),
the lengths of the command frames (41_command_frames.md R82). -/

namespace Sys2Proof.Machine

/-! ### Bits of a byte -/

theorem mbit_mset (v : Byte) (j k : Nat) (hk : k < 8) : mbit (mset v j) k = (mbit v k || decide (j = k)) := by
  have hj : mbit (mset v j) k = (v.getMsbD k || (0x80#8 >>> j).getMsbD k) := by
    simp [mbit, mset]
  have hbit : (0x80#8 >>> j).getMsbD k = decide (j = k) := by
    simp only [BitVec.getMsbD_ushiftRight, hk, decide_true, Bool.true_and]
    rcases Nat.lt_trichotomy j k with h | h | h
    · have h1 : ¬ k < j := by omega
      have h2 : ¬ j = k := by omega
      have h3 : ∀ d < 8, 0 < d → (0x80#8).getMsbD d = false := by decide
      simp [h1, h2, h3 (k - j) (by omega) (by omega)]
    · subst h
      simp
    · have h2 : ¬ j = k := by omega
      simp [h, h2]
  rw [hj, hbit, mbit]

theorem mbit_byteOfBits (f : Nat → Bool) (k : Nat) (hk : k < 8) : mbit (byteOfBits f) k = f k := by
  have h : byteOfBits f = byteOfBits (fun j => [f 0, f 1, f 2, f 3, f 4, f 5, f 6, f 7].getD j false) := by
    simp [byteOfBits, List.range_succ]
  rw [h]
  have all : ∀ b0 b1 b2 b3 b4 b5 b6 b7 : Bool, ∀ j < 8,
      mbit (byteOfBits (fun j => [b0, b1, b2, b3, b4, b5, b6, b7].getD j false)) j =
        [b0, b1, b2, b3, b4, b5, b6, b7].getD j false := by decide
  rw [all _ _ _ _ _ _ _ _ k hk]
  interval_cases k <;> rfl

theorem byte_ext {u v : Byte} (h : ∀ k < 8, mbit u k = mbit v k) : u = v := by
  apply BitVec.eq_of_getMsbD_eq
  intro i hi
  exact h i hi

theorem byteOfBits_congr {f g : Nat → Bool} (h : ∀ k < 8, f k = g k) : byteOfBits f = byteOfBits g :=
  byte_ext fun k hk => by rw [mbit_byteOfBits f k hk, mbit_byteOfBits g k hk, h k hk]

/-! ### Padding and sizes -/

@[simp] theorem zeros_length (n : Nat) : (zeros n).length = n := List.length_replicate

theorem pad_length {payload : List Byte} {t : Nat} (h : payload.length ≤ t) : (pad payload t).length = t := by
  simp [pad]; omega

theorem sizeOk_iff (p t : Nat) : sizeOk p t = true ↔ t ∈ [1, 16, 64] ∧ p ≤ t := by
  simp [sizeOk]

/-! ### The open parameters -/

theorem one_le_wMax : 1 ≤ Config.wMax := Nat.le_add_right 1 _

theorem le_hInMax : 128 ≤ Config.hInMax := Nat.le_add_right 128 _

/-! ### The command table -/

theorem ofIndex_isSome_iff (k : Nat) : (Cmd.ofIndex k).isSome = true ↔ k ≤ 17 := by
  have : Cmd.all.length = 18 := rfl
  simp [Cmd.ofIndex, this]; omega

theorem tsize_legal (c : Cmd) : c.tsize ∈ [1, 16, 64] := by cases c <;> decide

theorem template_length_le {c : Cmd} {params : List Byte} (h : c.paramsOk params.length = true) :
    (c.template params).length ≤ c.tsize := by
  cases c
  case rasterblk =>
    simp only [Cmd.paramsOk, decide_eq_true_eq] at h
    simp only [Cmd.template, Cmd.tsize, List.length_append, List.length_cons, List.length_nil]
    omega
  all_goals simp_all [Cmd.paramsOk, Cmd.template, Cmd.tsize]

theorem packet_length {c : Cmd} {params : List Byte} (h : c.paramsOk params.length = true) :
    (c.packet params).length = c.tsize := pad_length (template_length_le h)

end Sys2Proof.Machine
end

