-- ==== Sys2Proof/Laws/Ops.lean ====
section
/-! SUPPORT. What each link-calling operation can do, said once: how it goes on when the link answers well, and rules that
carry a property through every outcome (a phase `Meets P Q` when `P` holds where it goes on and `Q` where it has ended). -/

namespace Sys2Proof.Machine

/-! ### Phases -/

@[simp] theorem andThen_done {α β : Type} (a : α) (s : State) (k : α → State → Phase β) :
    (Phase.done a s).andThen k = k a s := rfl
@[simp] theorem andThen_ended {α β : Type} (s : State) (k : α → State → Phase β) :
    (Phase.ended s : Phase α).andThen k = .ended s := rfl
@[simp] theorem finally_done {α : Type} (a : α) (s : State) (k : α → State → State) :
    (Phase.done a s).finally k = k a s := rfl
@[simp] theorem finally_ended {α : Type} (s : State) (k : α → State → State) :
    (Phase.ended s : Phase α).finally k = s := rfl

/-- `P` holds where the phase goes on and `Q` where the operation has ended. -/
def Phase.Meets {α : Type} (P Q : State → Prop) : Phase α → Prop
  | .done _ s => P s
  | .ended s => Q s

theorem meets_andThen {α β : Type} {P P' Q : State → Prop} {p : Phase α} {k : α → State → Phase β}
    (hp : p.Meets P Q) (hk : ∀ a s, P s → (k a s).Meets P' Q) : (p.andThen k).Meets P' Q := by
  cases p with
  | done a s => exact hk a s hp
  | ended s => exact hp

theorem finally_of_meets {α : Type} {P Q : State → Prop} {p : Phase α} {k : α → State → State}
    (hp : p.Meets P Q) (hk : ∀ a s, P s → Q (k a s)) : Q (p.finally k) := by
  cases p with
  | done a s => exact hk a s hp
  | ended s => exact hp

/-! ### The dead check -/

theorem unlessDead_live {s : State} (h : s.fatal = false) (op : State → State) : s.unlessDead op = op s := by
  simp [State.unlessDead, h]

theorem unlessDead_dead {s : State} (h : s.fatal = true) (op : State → State) :
    s.unlessDead op = s.finish (.refused .dead) := by
  simp [State.unlessDead, h]

/-! ### When the link answers well -/

theorem transmit_done {s : State} {packet : List Byte} {n : Nat} {rest : List TxAnswer}
    (h : s.txAnswers = .done n :: rest) (hn : packet.length ≤ n) :
    transmit packet s = .done () (s.linkTx packet) := by
  have : s.txAnswer packet = .done packet.length := by
    simp [State.txAnswer, h, txAdmit, hn]
  simp [transmit, this]

theorem receive_data {s : State} {b : List Byte} {rest : List RxAnswer}
    (h : s.rxAnswers = .data b :: rest) (hb : b.length ≤ 64) :
    receive s = .done b (s.linkRx.storeResponse b) := by
  have : s.rxAnswer = .data b := by
    simp [State.rxAnswer, h, rxAdmit, List.take_of_length_le hb]
  simp [receive, this]

theorem exchange_response {s : State} {payload b : List Byte} {t n : Nat} {e : Expect} {trest : List TxAnswer}
    {rrest : List RxAnswer} (he : e ≠ .none) (hp : payload.length ≤ t)
    (ht : s.txAnswers = .done n :: trest) (hn : t ≤ n) (hr : s.rxAnswers = .data b :: rrest) (hb : b.length ≤ 64) :
    exchange payload t e s =
      checkResponse e b ((s.linkTx (pad payload t)).linkRx.storeResponse b) := by
  have h1 := transmit_done (packet := pad payload t) ht (by rw [pad_length hp]; exact hn)
  have h2 : receive (s.linkTx (pad payload t)) = .done b ((s.linkTx (pad payload t)).linkRx.storeResponse b) :=
    receive_data (by simpa using hr) hb
  cases e <;> simp_all [exchange]

theorem exchange_noResponse {s : State} {payload : List Byte} {t n : Nat} {trest : List TxAnswer}
    (hp : payload.length ≤ t) (ht : s.txAnswers = .done n :: trest) (hn : t ≤ n) :
    exchange payload t .none s = .done .none (s.linkTx (pad payload t)) := by
  have h1 := transmit_done (packet := pad payload t) ht (by rw [pad_length hp]; exact hn)
  simp [exchange, h1]

/-! ### Every outcome of a link call -/

/-- What carries `P` (going on) and `Q` (ended) through the link's primitives. -/
structure LinkRules (P Q : State → Prop) : Prop where
  tx : ∀ s p, p.length ∈ [1, 16, 64] → P s → P (s.linkTx p)
  rx : ∀ s, P s → P s.linkRx
  store : ∀ s b, b.length ≤ 64 → P s → P (s.storeResponse b)
  fault : ∀ s, P s → Q s.transportFault
  stall : ∀ s x, P s → Q (s.stall x)
  finish : ∀ s r, P s → Q (s.finish r)

theorem meets_transmit {P Q : State → Prop} (R : LinkRules P Q) {s : State} {p : List Byte}
    (hp : p.length ∈ [1, 16, 64]) (h : P s) : (transmit p s).Meets P Q := by
  have htx := R.tx s p hp h
  unfold transmit
  split
  · exact R.fault _ htx
  · exact R.stall _ _ htx
  · split
    · exact R.fault _ htx
    · exact htx

theorem rxAnswer_data_length {s : State} {b : List Byte} (h : s.rxAnswer = .data b) : b.length ≤ 64 := by
  unfold State.rxAnswer rxAdmit at h
  split at h <;> simp only [RxAnswer.data.injEq, reduceCtorEq] at h
  subst h
  simp

theorem meets_receive {P Q : State → Prop} (R : LinkRules P Q) {s : State} (h : P s) :
    (receive s).Meets P Q := by
  have hrx := R.rx s h
  unfold receive
  split
  · exact R.fault _ hrx
  · exact R.stall _ _ hrx
  · rename_i b hb
    exact R.store _ _ (rxAnswer_data_length hb) hrx

theorem meets_checkResponse {P Q : State → Prop} (R : LinkRules P Q) {s : State} (e : Expect) (b : List Byte)
    (h : P s) : (checkResponse e b s).Meets P Q := by
  unfold checkResponse
  split
  · exact h
  · exact R.finish _ _ h

theorem meets_exchange {P Q : State → Prop} (R : LinkRules P Q) {s : State} {payload : List Byte} {t : Nat}
    (e : Expect) (ht : t ∈ [1, 16, 64]) (hp : payload.length ≤ t) (h : P s) :
    (exchange payload t e s).Meets P Q := by
  unfold exchange
  refine meets_andThen (meets_transmit R (by rw [pad_length hp]; exact ht) h) fun _ s1 h1 => ?_
  cases e with
  | none => exact h1
  | ack => exact meets_andThen (meets_receive R h1) fun b s2 h2 => meets_checkResponse R _ _ h2
  | exact q => exact meets_andThen (meets_receive R h1) fun b s2 h2 => meets_checkResponse R _ _ h2
  | len m => exact meets_andThen (meets_receive R h1) fun b s2 h2 => meets_checkResponse R _ _ h2

theorem meets_exchangeCmd {P Q : State → Prop} (R : LinkRules P Q) {s : State} {c : Cmd} {params : List Byte}
    (hc : c.paramsOk params.length = true) (h : P s) : (exchangeCmd c params s).Meets P Q :=
  meets_exchange R _ (tsize_legal c) (template_length_le hc) h

theorem runCommand_rule {P Q : State → Prop} (R : LinkRules P Q) {s : State} (k : Nat) (params : List Byte)
    (hdead : s.fatal = true → Q (s.finish (.refused .dead))) (h : s.fatal = false → P s) :
    Q (runCommand k params s) := by
  unfold runCommand
  cases hf : s.fatal with
  | true => rw [unlessDead_dead hf]; exact hdead hf
  | false =>
    rw [unlessDead_live hf]
    have hP := h hf
    split
    · exact R.finish _ _ hP
    · split
      · rename_i c _ hc
        exact finally_of_meets (meets_exchangeCmd R hc hP) fun _ s1 h1 => R.finish _ _ h1
      · exact R.finish _ _ hP

theorem exchangeSteps_rule {P Q : State → Prop} {I : NextExchange → State → Prop} (steps : Nat) (x : NextExchange)
    {s : State} (hI : ∀ x s, I x s → P s)
    (hstep : ∀ x s, I x s → match exchangeStep x s with
      | .done y t => I y t
      | .ended t => Q t)
    (h : I x s) : (exchangeSteps steps x s).Meets P Q := by
  induction steps generalizing x s with
  | zero => exact hI x s h
  | succ steps ih =>
    have h1 := hstep x s h
    unfold exchangeSteps
    cases he : exchangeStep x s with
    | done y t => rw [he] at h1; exact ih y h1
    | ended t => rw [he] at h1; exact h1

theorem state_of_meets {α : Type} {Q : State → Prop} {p : Phase α} (hp : p.Meets Q Q) : Q p.state := by
  cases p <;> exact hp

/-- What a transfer can come to: refused, over at once with nothing to send, or where its exchange steps leave it. -/
theorem rxferUpTo_rule {Q : State → Prop} {s : State} (steps : Nat)
    (hdead : s.fatal = true → Q (s.finish (.refused .dead)))
    (hnot : s.fatal = false → s.pvalid = false → Q (s.finish (.refused .notready)))
    (hempty : s.fatal = false → s.pvalid = true → s.n = 0 → Q (s.startTransfer.finish (.ok .none)))
    (hrun : s.fatal = false → s.pvalid = true → 0 < s.n → Q (exchangeSteps steps .block s.startTransfer).state) :
    Q (s.rxferUpTo steps) := by
  unfold State.rxferUpTo
  cases hf : s.fatal with
  | true => rw [unlessDead_dead hf]; exact hdead hf
  | false =>
    rw [unlessDead_live hf]
    cases hv : s.pvalid with
    | false => exact hnot hf hv
    | true =>
      rcases Nat.eq_zero_or_pos s.n with hn | hn
      · simpa [hn] using hempty hf hv hn
      · simpa [hn] using hrun hf hv hn

/-! ### Every meaning answers a next state -/

theorem exec_next (i : Instr) (s : State) : ∃ t, exec i s = .next t := by
  cases i <;> exact ⟨_, rfl⟩

end Sys2Proof.Machine
end

