-- ==== Sys2Proof/Laws/PerInstr.lean ====
section
/-! SUPPORT. Statements about all instructions, one lemma per constructor. Family `LeadByte`: the first byte of an
instruction's encoding is its operation-select code (30_encoding.md R59), its W1 opcode (R61), or the lead byte `02` of a
longer frame (R62, R63). -/

namespace Sys2Proof

/-- The first byte of an instruction's encoding, as the tables of R59, R61, R62 and R63 have it. -/
def leadByte : Instr → Byte
  | .rdcsr _ => 0x01
  | .send _ _ => 0x10
  | .recv => 0x11
  | .xchg _ _ => 0x12
  | .setgeom _ _ => 0x20
  | .wrbm _ _ => 0x21
  | .rdbm _ => 0x22
  | .xpose => 0x23
  | .rdpm _ => 0x24
  | .rxfer => 0x30
  | .xchgStatus => 0x02
  | .xchgReset => 0x02
  | .xchgCut => 0x08
  | .xchgHalfcut => 0x09
  | .xchgFeed => 0x0A
  | .xchgCancel => 0x18
  | .xchgPrejob1 => 0x02
  | .xchgPrejob2 => 0x02
  | .xchgSpeed => 0x02
  | .xchgTapechk _ _ => 0x02
  | .xchgMargin _ => 0x02
  | .xchgDensity _ => 0x02
  | .xchgCutter _ => 0x02
  | .xchgGettape => 0x02
  | .xchgPrefeed _ => 0x02
  | .xchgRasterend => 0x02
  | .xchgPrintpage => 0x0C
  | .xchgRasterblk _ => 0x02

/-- The encoding begins with the lead byte. -/
def Laws.LeadByte.Statement (i : Instr) : Prop := ∃ rest, (encode i).bytes = leadByte i :: rest

theorem Laws.LeadByte.rdcsr (n : Nat) : Laws.LeadByte.Statement (.rdcsr n) := ⟨_, rfl⟩
theorem Laws.LeadByte.send (t : Nat) (payload : List Byte) : Laws.LeadByte.Statement (.send t payload) := ⟨_, rfl⟩
theorem Laws.LeadByte.recv : Laws.LeadByte.Statement (.recv) := ⟨_, rfl⟩
theorem Laws.LeadByte.xchg (k : Nat) (params : List Byte) : Laws.LeadByte.Statement (.xchg k params) := ⟨_, rfl⟩
theorem Laws.LeadByte.setgeom (w : Nat) (h : Nat) : Laws.LeadByte.Statement (.setgeom w h) := ⟨_, rfl⟩
theorem Laws.LeadByte.wrbm (a : Nat) (v : Byte) : Laws.LeadByte.Statement (.wrbm a v) := ⟨_, rfl⟩
theorem Laws.LeadByte.rdbm (a : Nat) : Laws.LeadByte.Statement (.rdbm a) := ⟨_, rfl⟩
theorem Laws.LeadByte.xpose : Laws.LeadByte.Statement (.xpose) := ⟨_, rfl⟩
theorem Laws.LeadByte.rdpm (a : Nat) : Laws.LeadByte.Statement (.rdpm a) := ⟨_, rfl⟩
theorem Laws.LeadByte.rxfer : Laws.LeadByte.Statement (.rxfer) := ⟨_, rfl⟩
theorem Laws.LeadByte.xchgStatus : Laws.LeadByte.Statement (.xchgStatus) := ⟨_, rfl⟩
theorem Laws.LeadByte.xchgReset : Laws.LeadByte.Statement (.xchgReset) := ⟨_, rfl⟩
theorem Laws.LeadByte.xchgCut : Laws.LeadByte.Statement (.xchgCut) := ⟨_, rfl⟩
theorem Laws.LeadByte.xchgHalfcut : Laws.LeadByte.Statement (.xchgHalfcut) := ⟨_, rfl⟩
theorem Laws.LeadByte.xchgFeed : Laws.LeadByte.Statement (.xchgFeed) := ⟨_, rfl⟩
theorem Laws.LeadByte.xchgCancel : Laws.LeadByte.Statement (.xchgCancel) := ⟨_, rfl⟩
theorem Laws.LeadByte.xchgPrejob1 : Laws.LeadByte.Statement (.xchgPrejob1) := ⟨_, rfl⟩
theorem Laws.LeadByte.xchgPrejob2 : Laws.LeadByte.Statement (.xchgPrejob2) := ⟨_, rfl⟩
theorem Laws.LeadByte.xchgSpeed : Laws.LeadByte.Statement (.xchgSpeed) := ⟨_, rfl⟩
theorem Laws.LeadByte.xchgTapechk (hi : Byte) (lo : Byte) : Laws.LeadByte.Statement (.xchgTapechk hi lo) := ⟨_, rfl⟩
theorem Laws.LeadByte.xchgMargin (m : Byte) : Laws.LeadByte.Statement (.xchgMargin m) := ⟨_, rfl⟩
theorem Laws.LeadByte.xchgDensity (d : Byte) : Laws.LeadByte.Statement (.xchgDensity d) := ⟨_, rfl⟩
theorem Laws.LeadByte.xchgCutter (c : Byte) : Laws.LeadByte.Statement (.xchgCutter c) := ⟨_, rfl⟩
theorem Laws.LeadByte.xchgGettape : Laws.LeadByte.Statement (.xchgGettape) := ⟨_, rfl⟩
theorem Laws.LeadByte.xchgPrefeed (a : Byte) : Laws.LeadByte.Statement (.xchgPrefeed a) := ⟨_, rfl⟩
theorem Laws.LeadByte.xchgRasterend : Laws.LeadByte.Statement (.xchgRasterend) := ⟨_, rfl⟩
theorem Laws.LeadByte.xchgPrintpage : Laws.LeadByte.Statement (.xchgPrintpage) := ⟨_, rfl⟩
theorem Laws.LeadByte.xchgRasterblk (payload : List Byte) : Laws.LeadByte.Statement (.xchgRasterblk payload) := ⟨_, rfl⟩

end Sys2Proof
end

