-- ==== Sys2Proof/Tests/Slice0.lean ====
section
/-! SUPPORT. Tests: ill-formed terms the checks refuse, words written out from the spec's encodings, one step per operation
against the vectors of 95_test_vectors.md (named in the docstrings), and for every statement with hypotheses a named
witness that meets them. -/

namespace Sys2Proof.Tests

open Sys2Proof Sys2Proof.Machine

/-! ### Small states -/

/-- A live block whose link gives these answers. -/
def linked (tx : List TxAnswer) (rx : List RxAnswer) : State := { State.reset with txAnswers := tx, rxAnswers := rx }

/-- A live block of this geometry with these Bitmap bytes from address 0 on. -/
def bitmap (w h : Nat) (bytes : List Byte) : State :=
  { State.reset.setGeometry w h with bm := Mem.pokeAll [] 0 bytes }

/-- A live block with a valid Pattern of one column (`N = 16`), whose link gives these answers. -/
def patterned (tx : List TxAnswer) (rx : List RxAnswer) : State :=
  { State.reset.setGeometry 1 1 with
    pm := Mem.pokeAll [] 0 [0, 1, 2, 3, 4, 5, 6, 7, 8, 9, 10, 11, 12, 13, 14, 15]
    status := 1
    txAnswers := tx
    rxAnswers := rx }

/-- A block that a transport fault has killed. -/
def dead : State := { State.reset with status := 4 }

/-- The state after an operation that has a next state. -/
def after (i : Instr) (s : State) : State :=
  match exec i s with
  | .next t => t
  | .fault _ => s
  | .refused _ => s

/-- The result of an operation. -/
def resultOf (i : Instr) (s : State) : Option Result := (after i s).result

/-- The first packet an operation hands to the link. -/
def packetOf (i : Instr) (s : State) : Option (List Byte) := (sentPackets (after i s).trace).head?

/-- The result and the packet of a command answered in full with `response`. -/
def commandOn (i : Instr) (size : Nat) (response : List Byte) : Option Result × Option (List Byte) :=
  (resultOf i (linked [.done size] [.data response]), packetOf i (linked [.done size] [.data response]))

/-! ### Ill-formed terms -/

theorem test_wf_rdcsr_number : Instr.wellFormed (.rdcsr 256) = false := by decide
theorem test_wf_send_size : Instr.wellFormed (.send 256 []) = false := by decide
theorem test_wf_send_payload : Instr.wellFormed (.send 64 (zeros 256)) = false := by
  simp only [Instr.wellFormed, zeros_length]; decide
theorem test_wf_xchg_index : Instr.wellFormed (.xchg 256 []) = false := by decide
theorem test_wf_xchg_params : Instr.wellFormed (.xchg 17 (zeros 256)) = false := by
  simp only [Instr.wellFormed, zeros_length]; decide
theorem test_wf_rasterblk_payload : Instr.wellFormed (.xchgRasterblk (zeros 61)) = false := by decide

/-! ### Words written out from the encoding tables

Host records: the code of R59, then the operands as log 1 carries them. -/

theorem test_decode_rdcsr : decode ⟨.hop, [0x01, 0xFF]⟩ = .ok (.rdcsr 255) := rfl
theorem test_decode_send : decode ⟨.hop, [0x10, 0x10, 0x02, 0x02, 0x1D]⟩ = .ok (.send 16 [0x02, 0x1D]) := rfl
theorem test_decode_recv : decode ⟨.hop, [0x11]⟩ = .ok .recv := rfl
theorem test_decode_xchg : decode ⟨.hop, [0x12, 0x09, 0x02, 0x83, 0x03]⟩ = .ok (.xchg 9 [0x83, 0x03]) := rfl
theorem test_decode_setgeom : decode ⟨.hop, [0x20, 0x81, 0x08, 0x82, 0x01]⟩ = .ok (.setgeom 1025 130) := rfl
theorem test_decode_wrbm : decode ⟨.hop, [0x21, 0x03, 0xFF]⟩ = .ok (.wrbm 3 0xFF) := rfl
theorem test_decode_rdbm : decode ⟨.hop, [0x22, 0x80, 0x01]⟩ = .ok (.rdbm 128) := rfl
theorem test_decode_xpose : decode ⟨.hop, [0x23]⟩ = .ok .xpose := rfl
theorem test_decode_rdpm : decode ⟨.hop, [0x24, 0x07]⟩ = .ok (.rdpm 7) := rfl
theorem test_decode_rxfer : decode ⟨.hop, [0x30]⟩ = .ok .rxfer := rfl

/-! Wire frames: the packets of T-CF1. -/

theorem test_decode_status :
    decode ⟨.frame, [0x02, 0x1D, 0, 0, 0, 0, 0, 0, 0, 0, 0, 0, 0, 0, 0, 0]⟩ = .ok .xchgStatus := rfl
theorem test_decode_reset :
    decode ⟨.frame, [0x02, 0x01, 0, 0, 0, 0, 0, 0, 0, 0, 0, 0, 0, 0, 0, 0]⟩ = .ok .xchgReset := rfl
theorem test_decode_cut : decode ⟨.frame, [0x08]⟩ = .ok .xchgCut := rfl
theorem test_decode_halfcut : decode ⟨.frame, [0x09]⟩ = .ok .xchgHalfcut := rfl
theorem test_decode_feed : decode ⟨.frame, [0x0A]⟩ = .ok .xchgFeed := rfl
theorem test_decode_cancel : decode ⟨.frame, [0x18]⟩ = .ok .xchgCancel := rfl
theorem test_decode_prejob1 :
    decode ⟨.frame, [0x02, 0x02, 0x04, 0x00, 0x00, 0x09, 0x09, 0x01, 0, 0, 0, 0, 0, 0, 0, 0]⟩ = .ok .xchgPrejob1 := rfl
theorem test_decode_prejob2 :
    decode ⟨.frame, [0x02, 0x82, 0, 0, 0, 0, 0, 0, 0, 0, 0, 0, 0, 0, 0, 0]⟩ = .ok .xchgPrejob2 := rfl
theorem test_decode_speed :
    decode ⟨.frame, [0x02, 0x1C, 0x01, 0, 0, 0, 0, 0, 0, 0, 0, 0, 0, 0, 0, 0]⟩ = .ok .xchgSpeed := rfl
theorem test_decode_tapechk :
    decode ⟨.frame, [0x02, 0x17, 0x02, 0, 0, 0x83, 0x03, 0, 0, 0, 0, 0, 0, 0, 0, 0]⟩ =
      .ok (.xchgTapechk 0x83 0x03) := rfl
theorem test_decode_margin :
    decode ⟨.frame, [0x02, 0x0D, 0x01, 0x00, 0x5A, 0, 0, 0, 0, 0, 0, 0, 0, 0, 0, 0]⟩ = .ok (.xchgMargin 0x5A) := rfl
theorem test_decode_density :
    decode ⟨.frame, [0x02, 0x09, 0x06, 0, 0, 0, 0x01, 0x00, 0x5A, 0x00, 0, 0, 0, 0, 0, 0]⟩ =
      .ok (.xchgDensity 0x5A) := rfl
theorem test_decode_cutter :
    decode ⟨.frame, [0x02, 0x19, 0x01, 0x00, 0x5A, 0, 0, 0, 0, 0, 0, 0, 0, 0, 0, 0]⟩ = .ok (.xchgCutter 0x5A) := rfl
theorem test_decode_gettape :
    decode ⟨.frame, [0x02, 0x1A, 0, 0, 0, 0, 0, 0, 0, 0, 0, 0, 0, 0, 0, 0]⟩ = .ok .xchgGettape := rfl
theorem test_decode_prefeed :
    decode ⟨.frame, [0x02, 0x1B, 0x01, 0x00, 0x5A, 0, 0, 0, 0, 0, 0, 0, 0, 0, 0, 0]⟩ = .ok (.xchgPrefeed 0x5A) := rfl
theorem test_decode_rasterend :
    decode ⟨.frame, [0x02, 0x04, 0, 0, 0, 0, 0, 0, 0, 0, 0, 0, 0, 0, 0, 0]⟩ = .ok .xchgRasterend := rfl
theorem test_decode_printpage : decode ⟨.frame, [0x0C]⟩ = .ok .xchgPrintpage := rfl
theorem test_decode_rasterblk :
    decode ⟨.frame, [0x02, 0xFE, 0x02, 0x00, 0xFF, 0xFE] ++ zeros 58⟩ = .ok (.xchgRasterblk [0xFF, 0xFE]) := rfl

/-! Rejections by name. -/

/-- T-SY2: the codes it lists are outside the map. -/
theorem test_decode_illegal_codes :
    ∀ b ∈ ([0x00, 0x02, 0x13, 0x25, 0x31, 0xFF] : List Byte), HostOp.ofOpsel b = none := by decide
theorem test_decode_illegal : decode ⟨.hop, [0x13, 0x00]⟩ = .error (.illegalOpsel 0x13) := rfl
theorem test_decode_empty : decode ⟨.hop, []⟩ = .error .emptyRecord := rfl
theorem test_decode_truncated : decode ⟨.hop, [0x10, 0x10, 0x02, 0x02]⟩ = .error .truncatedRecord := rfl
theorem test_decode_trailing : decode ⟨.hop, [0x11, 0x00]⟩ = .error .trailingBytes := rfl
/-- R65: `09` alone is Tape half-cut, and `02 08` begins no packet of 16 bytes. -/
theorem test_decode_unknown_frame : decode ⟨.frame, 0x02 :: 0x08 :: zeros 14⟩ = .error .unknownFrame := rfl
/-- R82: a byte that is padding is 0. -/
theorem test_decode_bad_padding : decode ⟨.frame, 0x02 :: 0x1D :: 0x01 :: zeros 13⟩ = .error .badFrame := rfl
/-- R82: a constant of the template is as listed. -/
theorem test_decode_bad_constant : decode ⟨.frame, 0x02 :: 0x1C :: zeros 14⟩ = .error .badFrame := rfl
/-- R63: `blockLen` is at most 60. -/
theorem test_decode_long_block : decode ⟨.frame, 0x02 :: 0xFE :: 0x3D :: zeros 61⟩ = .error .badFrame := rfl

/-! ### One step of each operation -/

/-- T-SY1. -/
theorem test_rdcsr_reset : ∀ n < 11, resultOf (.rdcsr n) State.reset = some (.ok (.num 0)) := by decide
/-- T-FF16, and the first reserved number. -/
theorem test_rdcsr_dead :
    resultOf (.rdcsr 0) dead = some (.ok (.num 4)) ∧ resultOf (.rdcsr 11) dead = some (.refused .addr) := by decide

/-- T-FF3. -/
theorem test_send_pads :
    resultOf (.send 16 [0x02, 0x1D]) (linked [.done 16] []) = some (.ok .none) ∧
      packetOf (.send 16 [0x02, 0x1D]) (linked [.done 16] []) =
        some [0x02, 0x1D, 0, 0, 0, 0, 0, 0, 0, 0, 0, 0, 0, 0, 0, 0] := by decide
/-- T-FF7, T-FF8, T-FF12. -/
theorem test_send_sizes :
    resultOf (.send 16 (zeros 17)) State.reset = some (.refused .size) ∧
      resultOf (.send 8 [0x02, 0x1D]) State.reset = some (.refused .size) ∧
      resultOf (.send 16 [0x02, 0x1D]) (linked [.done 15] []) = some .fatal := by decide

/-- T-FF18, T-FF17. -/
theorem test_recv_data :
    (after .recv (linked [] [.data [0x02, 0x80, 0x02, 0x00, 0x00, 0xA6]])).rxlen = 6 ∧
      resultOf .recv (linked [] [.data []]) = some (.ok (.bytes [])) := by decide
/-- T-FF21: the older bytes stay and are not returned. -/
theorem test_recv_stale :
    resultOf .recv (after .recv (linked [] [.data [0x02, 0x80], .data [0x06]])) = some (.ok (.bytes [0x06])) ∧
      (after .recv (after .recv (linked [] [.data [0x02, 0x80], .data [0x06]]))).rxByte 1 = 0x80 := by decide

/-- T-CF8: a short write, then no receive; and T-SY4. -/
theorem test_xchg_faults :
    (after (.xchg 1 []) (linked [.done 2] [.data [0x06]])).rxAnswers = [.data [0x06]] ∧
      resultOf (.xchg 1 []) (linked [.done 2] [.data [0x06]]) = some .fatal ∧
      (after (.xchg 1 []) (linked [.done 16] [])).waiting = some .rx := by decide
/-- T-CF5. -/
theorem test_xchg_refusals :
    resultOf (.xchg 18 [0x00]) State.reset = some (.refused .illegal) ∧
      resultOf (.xchg 0 [0x00]) State.reset = some (.refused .size) ∧
      resultOf (.xchg 9 [0x83]) State.reset = some (.refused .size) ∧
      resultOf (.xchg 17 (zeros 61)) State.reset = some (.refused .size) := by decide

/-- R104: the registers of an accepted geometry, here the least. -/
theorem test_setgeom_least :
    exec (.setgeom 1 1) State.reset = .next { State.reset with
      w := 1, hin := 1, h := 1, padtop := 63, stride := 1, n := 16, imageEpoch := 1,
      result := some (.ok .none) } := by
  have h1 := one_le_wMax
  have h2 := le_hInMax
  have h3 : geomOk 1 1 = true := by simp [geomOk]; omega
  simp [exec, execSetgeom, State.unlessDead, State.fatal, State.reset, h3, State.setGeometry, State.ok, State.finish,
    geomH, geomPadtop, geomStride, geomN, statusNewGeometry, putFlag]
/-- R104: an empty image. -/
theorem test_setgeom_empty : resultOf (.setgeom 0 1) State.reset = some (.refused .geom) := by decide

/-- R105: `WRBM 3, FF` on a 16 by 16 image sets the pixels of row 1, columns 8 to 15. -/
theorem test_wrbm_row1 :
    ∀ x < 16, (after (.wrbm 3 0xFF) (bitmap 16 16 (zeros 4))).pixel 1 x = decide (8 ≤ x) := by decide
/-- R47: the first address past the live range. -/
theorem test_wrbm_past : resultOf (.wrbm 32 0xFF) (bitmap 16 16 []) = some (.refused .addr) := by decide

/-- R106. -/
theorem test_rdbm_byte : resultOf (.rdbm 1) (bitmap 1 2 [0x80, 0xA5]) = some (.ok (.byte 0xA5)) := by decide
/-- R167, I2: a byte that nothing has written since the last SETGEOM is a free value, whatever was there before. -/
theorem test_rdbm_unwritten :
    resultOf (.rdbm 0) ((bitmap 1 2 [0x80]).setGeometry 1 2) = some (.ok (.byte (Config.unspecified .bm 2 0))) := rfl

/-- T-TR6, column 2. -/
theorem test_xpose_3x2 :
    (after .xpose (bitmap 3 2 [0xA0, 0x60])).pmBytes 32 16 = [0, 0, 0, 0, 0, 0, 0, 0x01, 0x80, 0, 0, 0, 0, 0, 0, 0] := by
  decide
/-- R135 and R139. -/
theorem test_xpose_flags :
    (after .xpose (bitmap 1 129 (zeros 129))).trunc = true ∧ (after .xpose (bitmap 1 128 (zeros 128))).trunc = false ∧
      resultOf .xpose State.reset = some (.refused .notready) := ⟨rfl, rfl, rfl⟩

/-- R112 at both ends of the live range. -/
theorem test_rdpm_ends :
    resultOf (.rdpm 15) (patterned [] []) = some (.ok (.byte 15)) ∧
      resultOf (.rdpm 16) (patterned [] []) = some (.refused .addr) := by decide

/-- T-CH1: B16, E, P. -/
theorem test_rxfer_one_column :
    (sentPackets (after .rxfer (patterned [.done 64, .done 16, .done 1] [.data [6], .data [6], .data [6]])).trace) =
      [[0x02, 0xFE, 0x10, 0x00, 0, 1, 2, 3, 4, 5, 6, 7, 8, 9, 10, 11, 12, 13, 14, 15] ++ zeros 44,
        0x02 :: 0x04 :: zeros 14, [0x0C]] := by decide
/-- R126: Raster end answered NAK. -/
theorem test_rxfer_aborts :
    resultOf .rxfer (patterned [.done 64, .done 16, .done 1] [.data [6], .data [0x1E], .data [6]]) =
        some (.mismatch [0x1E]) ∧
      (after .rxfer (patterned [.done 64, .done 16, .done 1] [.data [6], .data [0x1E], .data [6]])).pos = 16 ∧
      (after .rxfer (patterned [.done 64, .done 16, .done 1] [.data [6], .data [0x1E], .data [6]])).pagecnt = 16 := by
  decide

/-! The eighteen commands with the packets and responses of T-CF1. -/

theorem test_status : commandOn .xchgStatus 16 [0x02, 0x80, 0x02, 0x00, 0x00, 0xA6] =
    (some (.ok (.bytes [0x02, 0x80, 0x02, 0x00, 0x00, 0xA6])), some (0x02 :: 0x1D :: zeros 14)) := by decide
/-- T-CF3, the last byte off by one and the six bytes followed by one more. -/
theorem test_status_mismatch :
    (commandOn .xchgStatus 16 [0x02, 0x80, 0x02, 0x00, 0x00, 0xA7]).1 =
        some (.mismatch [0x02, 0x80, 0x02, 0x00, 0x00, 0xA7]) ∧
      (commandOn .xchgStatus 16 [0x02, 0x80, 0x02, 0x00, 0x00, 0xA6, 0x00]).1 =
        some (.mismatch [0x02, 0x80, 0x02, 0x00, 0x00, 0xA6, 0x00]) := by decide
theorem test_reset : commandOn .xchgReset 16 [0x06] =
    (some (.ok (.bytes [0x06])), some (0x02 :: 0x01 :: zeros 14)) := by decide
/-- S7. -/
theorem test_reset_nak : (commandOn .xchgReset 16 [0x1E]).1 = some (.mismatch [0x1E]) := by decide
theorem test_cut : commandOn .xchgCut 1 [0x06] = (some (.ok (.bytes [0x06])), some [0x08]) := by decide
theorem test_halfcut : commandOn .xchgHalfcut 1 [0x06] = (some (.ok (.bytes [0x06])), some [0x09]) := by decide
theorem test_feed : commandOn .xchgFeed 1 [0x06] = (some (.ok (.bytes [0x06])), some [0x0A]) := by decide
theorem test_cancel : commandOn .xchgCancel 1 [0x06] = (some (.ok .none), some [0x18]) := by decide
theorem test_prejob1 : commandOn .xchgPrejob1 16 [0x06] =
    (some (.ok (.bytes [0x06])), some ([0x02, 0x02, 0x04, 0x00, 0x00, 0x09, 0x09, 0x01] ++ zeros 8)) := by decide
theorem test_prejob2 : commandOn .xchgPrejob2 16 [0x02, 0x80, 0x01, 0x00, 0x01] =
    (some (.ok (.bytes [0x02, 0x80, 0x01, 0x00, 0x01])), some (0x02 :: 0x82 :: zeros 14)) := by decide
theorem test_speed : commandOn .xchgSpeed 16 [0x06] =
    (some (.ok (.bytes [0x06])), some ([0x02, 0x1C, 0x01] ++ zeros 13)) := by decide
theorem test_tapechk : commandOn (.xchgTapechk 0x83 0x03) 16 [0x06] =
    (some (.ok (.bytes [0x06])), some ([0x02, 0x17, 0x02, 0x00, 0x00, 0x83, 0x03] ++ zeros 9)) := by decide
/-- T-CF2. -/
theorem test_tape_codes :
    [Tape.mm6, .mm9, .mm12, .mm18, .mm24, .none].map tapeCheck =
      [.xchgTapechk 0x81 0x00, .xchgTapechk 0x85 0x00, .xchgTapechk 0x83 0x03, .xchgTapechk 0x87 0x03,
        .xchgTapechk 0x86 0x03, .xchgTapechk 0x00 0x00] := by decide
theorem test_margin : commandOn (.xchgMargin 0x5A) 16 [0x06] =
    (some (.ok (.bytes [0x06])), some ([0x02, 0x0D, 0x01, 0x00, 0x5A] ++ zeros 11)) := by decide
theorem test_density : commandOn (.xchgDensity 0x5A) 16 [0x06] =
    (some (.ok (.bytes [0x06])), some ([0x02, 0x09, 0x06, 0, 0, 0, 0x01, 0x00, 0x5A] ++ zeros 7)) := by decide
theorem test_cutter : commandOn (.xchgCutter 0x5A) 16 [0x06] =
    (some (.ok (.bytes [0x06])), some ([0x02, 0x19, 0x01, 0x00, 0x5A] ++ zeros 11)) := by decide
/-- T-CF7. -/
theorem test_gettape : commandOn .xchgGettape 16 [0xAA, 0xBB, 0xCC, 0xDD, 0xEE] =
    (some (.ok (.bytes [0xAA, 0xBB, 0xCC, 0xDD, 0xEE])), some (0x02 :: 0x1A :: zeros 14)) := by decide
theorem test_gettape_short : (commandOn .xchgGettape 16 [0x06]).1 = some (.mismatch [0x06]) := by decide
theorem test_prefeed : commandOn (.xchgPrefeed 0x5A) 16 [0x06] =
    (some (.ok (.bytes [0x06])), some ([0x02, 0x1B, 0x01, 0x00, 0x5A] ++ zeros 11)) := by decide
theorem test_rasterend : commandOn .xchgRasterend 16 [0x06] =
    (some (.ok (.bytes [0x06])), some (0x02 :: 0x04 :: zeros 14)) := by decide
theorem test_printpage : commandOn .xchgPrintpage 1 [0x06] = (some (.ok (.bytes [0x06])), some [0x0C]) := by decide
/-- T-CF6. -/
theorem test_rasterblk : commandOn (.xchgRasterblk []) 64 [0x06] =
    (some (.ok (.bytes [0x06])), some (0x02 :: 0xFE :: zeros 62)) := by decide

/-- The result codes of the table of R132. -/
theorem test_result_codes :
    [Result.ok .none, .mismatch [], .fatal, .refused .size, .refused .geom, .refused .addr].map resultCode =
        [0x0, 0x1, 0x2, 0x8, 0x9, 0xA] ∧
      [Result.refused .notready, .refused .illegal, .refused .dead].map resultCode = [0xB, 0xC, 0xD] := by decide

/-! ### Witnesses

For each statement with hypotheses a state and operands that meet all of them together, one for each clause, at the
boundary of its range. -/

/-- A live block with the Pattern of a 1 by 129 Bitmap, so `TRUNC` set; the host's next input is `input`. -/
def truncated (input : HostInput) : State :=
  { State.reset.setGeometry 1 129 with status := 3, host := [input] }

/-- A block with a valid Pattern of one column and a RXFER to come that a reset ends after `exchanges` of its exchanges. -/
def resetIn (exchanges : Nat) (tx : List TxAnswer) (rx : List RxAnswer) : State :=
  { patterned tx rx with host := [.opReset ⟨.hop, [0x30]⟩ exchanges] }

/-- The state after a step that has a next state. -/
def stepped (s : State) : State :=
  match step s with
  | .next t => t
  | .fault _ => s
  | .refused _ => s

/-- R155, R176: a reset after the first of the three exchanges; Raster end was not handed to the link. -/
theorem test_reset_between_exchanges :
    (sentPackets (stepped (resetIn 1 [.done 64, .done 16] [.data [6], .data [6]])).trace).length = 1 ∧
      (stepped (resetIn 1 [.done 64, .done 16] [.data [6], .data [6]])).txAnswers = [.done 16] ∧
      (stepped (resetIn 1 [.done 64, .done 16] [.data [6], .data [6]])).n = 0 := by decide

/-- A block whose RECV is never answered. -/
def hanging (input : HostInput) : State :=
  { State.reset with trace := [.rx .silent], waiting := some .rx, host := [input] }

theorem witness_DecodeOfEncode :
    WellFormed (.rdcsr 255) ∧ WellFormed (.send 255 (zeros 255)) ∧ WellFormed (.xchg 255 (zeros 255)) ∧
      WellFormed (.setgeom 100000 0) ∧ WellFormed (.xchgRasterblk (zeros 60)) ∧ WellFormed (.xchgRasterblk []) := by
  simp only [WellFormed, Instr.wellFormed, zeros_length]; decide

theorem witness_AcceptedFrameIsTheFrame :
    decode ⟨.frame, [0x18]⟩ = .ok .xchgCancel ∧
      decode ⟨.frame, 0x02 :: 0xFE :: 0x3C :: 0x00 :: List.replicate 60 0xFF⟩ =
        .ok (.xchgRasterblk (List.replicate 60 0xFF)) := ⟨rfl, rfl⟩

theorem witness_StepRunsDecodedOperation :
    ({ State.reset with host := [.op ⟨.hop, [0x11]⟩] } : State).waiting = none ∧
      ({ State.reset with host := [.op ⟨.hop, [0x11]⟩] } : State).host = .op ⟨.hop, [0x11]⟩ :: [] ∧
      decode ⟨.hop, [0x11]⟩ = .ok .recv := ⟨rfl, rfl, rfl⟩

theorem witness_ResetInput :
    (hanging .reset).host = .reset :: [] ∧
      ((∃ t, step { dead with host := [.op ⟨.hop, [0x11]⟩] } = .next t) ∧
        (∀ rest, ({ dead with host := [.op ⟨.hop, [0x11]⟩] } : State).host ≠ .reset :: rest) ∧
        (∀ r j rest, ({ dead with host := [.op ⟨.hop, [0x11]⟩] } : State).host ≠ .opReset r j :: rest) ∧
        ({ dead with host := [.op ⟨.hop, [0x11]⟩] } : State).fatal = true) ∧
      (∀ rest, (hanging (.op ⟨.hop, [0x11]⟩)).host ≠ .reset :: rest) ∧
      (hanging (.op ⟨.hop, [0x11]⟩)).waiting.isSome = true :=
  ⟨rfl, ⟨⟨_, rfl⟩, by simp, by simp, rfl⟩, by simp [hanging], rfl⟩

/-- A state with a geometry, a Pattern and a hanging RECV still to come: its next step is a RECV. -/
theorem witness_StepKeepsInv :
    State.Inv { patterned [] [] with host := [.op ⟨.hop, [0x11]⟩] } ∧
      ∃ t, step { patterned [] [] with host := [.op ⟨.hop, [0x11]⟩] } = .next t := by
  have h1 := one_le_wMax
  have h2 := le_hInMax
  refine ⟨?_, _, rfl⟩
  constructor
  case geometry => exact .inr ⟨⟨le_rfl, h1⟩, ⟨le_rfl, by show 1 ≤ _; omega⟩, rfl, rfl, rfl, rfl⟩
  case pvalid => intro _; exact le_rfl
  case trunc => decide
  case pm =>
    refine ⟨by decide, fun c hc => ?_⟩
    have h : ∀ c ∈ (patterned [] []).pm, c.1 < 16 := by decide
    have := h c hc
    omega
  case waiting => intro h; cases h
  case trace => intro e he; cases he
  all_goals first | exact kept_nil _ | exact Nat.zero_le _

theorem witness_OneResultOrHang :
    (State.reset.waiting = none ∧ ∃ t, exec (.rdcsr 0) State.reset = .next t) ∧
      (State.reset.waiting = none ∧ ∃ t, exec .recv State.reset = .next t ∧ t.result = none) :=
  ⟨⟨rfl, _, rfl⟩, rfl, _, rfl, rfl⟩

theorem witness_DeadBlockRefuses : dead.fatal = true ∧ ∀ n, Instr.rxfer ≠ .rdcsr n :=
  ⟨rfl, by simp⟩

theorem witness_RefusedChangesNothing :
    ∃ t, exec (.rdcsr 11) State.reset = .next t ∧ t.result = some (.refused .addr) := ⟨_, rfl, rfl⟩

theorem witness_FatalFlagIsFatalResult :
    (patterned [.done 64, .done 15] [.data [0x06]]).fatal = false ∧
      (∃ t, exec .rxfer (patterned [.done 64, .done 15] [.data [0x06]]) = .next t ∧ t.result = some .fatal) ∧
      ∃ t, exec .xpose (bitmap 1 1 [0x80]) = .next t ∧ t.fatal = false := by
  refine ⟨rfl, ⟨_, rfl, ?_⟩, _, rfl, rfl⟩
  decide

theorem witness_MismatchIsRecoverable :
    (linked [.done 16] [.data [0x1E]]).waiting = none ∧
      (∃ t, exec .xchgReset (linked [.done 16] [.data [0x1E]]) = .next t ∧ t.result = some (.mismatch [0x1E])) ∧
      ∃ t, exec .rxfer (patterned [.done 64] [.data []]) = .next t ∧ t.result = some (.mismatch []) := by
  refine ⟨rfl, ⟨_, rfl, ?_⟩, _, rfl, ?_⟩ <;> decide

theorem witness_GeometryOnlyBySetgeom :
    (∀ w h, Instr.xpose ≠ .setgeom w h) ∧ ∃ t, exec .xpose (bitmap 1 1 [0x80]) = .next t :=
  ⟨by simp, _, rfl⟩

theorem witness_WhatOperationsTouch :
    ∃ t, exec (.send 1 [0x08]) (linked [.done 1] []) = .next t ∧
      (∀ a v, Instr.send 1 [0x08] ≠ .wrbm a v) ∧ (∀ w h, Instr.send 1 [0x08] ≠ .setgeom w h) ∧
      Instr.send 1 [0x08] ≠ .xpose ∧ Instr.send 1 [0x08] ≠ .rxfer :=
  ⟨_, rfl, by simp, by simp, by simp, by simp⟩

theorem witness_NoLinkCalls : ∃ t, exec (.rdbm 0) (bitmap 1 1 [0x80]) = .next t := ⟨_, rfl⟩

theorem witness_PatternFlags :
    (∃ t, exec .recv (patterned [] []) = .next t ∧ t.result ≠ some (.ok .none)) ∧
      (∃ t, exec .xpose (bitmap 1 1 [0x80]) = .next t ∧ t.result = some (.ok .none)) ∧
      ∃ t, exec (.setgeom 1 1) State.reset = .next t ∧ t.result = some (.ok .none) :=
  ⟨⟨_, rfl, by decide⟩, ⟨_, rfl, rfl⟩, _, test_setgeom_least, rfl⟩

theorem witness_TruncationWarning :
    ((bitmap 1 129 []).fatal = false ∧ (bitmap 1 129 []).w ≠ 0 ∧ 128 < (bitmap 1 129 []).hin) ∧
      (∃ t, step (truncated .reset) = .next t ∧ (truncated .reset).trunc = true ∧ t.trunc = false) ∧
      (∃ t, step (truncated (.opReset ⟨.hop, [0x23]⟩ 1)) = .next t ∧
        (truncated (.opReset ⟨.hop, [0x23]⟩ 1)).trunc = true ∧ t.trunc = false) ∧
      ∃ t, step { truncated (.op ⟨.hop, [0x23]⟩) with hin := 128 } = .next t ∧
        ({ truncated (.op ⟨.hop, [0x23]⟩) with hin := 128 } : State).trunc = true ∧ t.trunc = false :=
  ⟨⟨rfl, by decide, by decide⟩, ⟨_, rfl, rfl, rfl⟩, ⟨_, rfl, rfl, rfl⟩, _, rfl, rfl, rfl⟩

theorem witness_LinkCallsAreLegal :
    ∃ t, exec .recv (linked [] [.data (List.replicate 65 0xFF)]) = .next t ∧ t.rxlen = 64 := by
  refine ⟨_, rfl, ?_⟩
  decide

theorem witness_OneAnswerPerCall :
    ∃ t, exec (.xchg 0 []) (linked [.done 16, .error] [.data [], .error]) = .next t ∧ t.txAnswers = [.error] :=
  ⟨_, rfl, rfl⟩

theorem witness_SendThenReceive :
    Instr.xchgCancel ≠ .recv ∧ ∃ t, exec .xchgCancel (linked [.done 1] [.data [0x06]]) = .next t :=
  ⟨by simp, _, rfl⟩

theorem witness_StaleBytesInvisible : ∃ t, exec .rxfer (patterned [.done 64] []) = .next t := ⟨_, rfl⟩

theorem witness_IllegalRefused :
    (∀ op ∈ ([0x00, 0x02, 0x13, 0x25, 0x31, 0xFF] : List Byte),
        op ∉ ([0x01, 0x10, 0x11, 0x12, 0x20, 0x21, 0x22, 0x23, 0x24, 0x30] : List Byte)) ∧
      ({ dead with host := [.op ⟨.hop, [0x13]⟩] } : State).waiting = none ∧
      ({ dead with host := [.op ⟨.hop, [0x13]⟩] } : State).host = .op ⟨.hop, 0x13 :: []⟩ :: [] ∧ 17 < 18 :=
  ⟨by decide, rfl, rfl, by decide⟩

theorem witness_SizeRefused :
    State.reset.fatal = false ∧
      (∀ t ∈ [0, 2, 15, 17, 63, 65, 255], ¬ ((t = 1 ∨ t = 16 ∨ t = 64) ∧ ([] : List Byte).length ≤ t)) ∧
      ¬ ((1 = 1 ∨ 1 = 16 ∨ 1 = 64) ∧ ([0x08, 0x09] : List Byte).length ≤ 1) ∧
      [0, 0, 0, 0, 0, 0, 0, 0, 0, 2, 1, 1, 1, 0, 1, 0, 0][9]? = some 2 ∧ ([0x83] : List Byte).length ≠ 2 ∧
      [0, 0, 0, 0, 0, 0, 0, 0, 0, 2, 1, 1, 1, 0, 1, 0, 0][16]? = some 0 ∧ ([0x00] : List Byte).length ≠ 0 ∧
      60 < (zeros 61).length :=
  ⟨rfl, by decide, by decide, rfl, by decide, rfl, by decide, by decide⟩

theorem witness_AddressRefused :
    ((bitmap 9 2 []).fatal = false ∧ (bitmap 9 2 []).stride * (bitmap 9 2 []).hin ≤ 4) ∧ (bitmap 9 2 []).n ≤ 144 ∧
      (State.reset.stride * State.reset.hin ≤ 0 ∧ State.reset.n ≤ 0) ∧ 10 < 11 := by decide

theorem witness_NotReadyRefused : State.reset.fatal = false ∧ State.reset.w = 0 ∧ State.reset.pvalid = false := by decide

theorem witness_SendPadsAndSends :
    ∀ t ∈ [1, 16, 64], (linked [.done t] []).fatal = false ∧ (t = 1 ∨ t = 16 ∨ t = 64) ∧ (zeros t).length ≤ t ∧
      ([] : List Byte).length ≤ t ∧ (linked [.done t] []).txAnswers = .done t :: [] := by decide

theorem witness_SendFaultIsFatal :
    (linked [.done 15] []).fatal = false ∧ (linked [.done 15] []).txAnswers = .done 15 :: [] ∧
      (∃ t payload, Instr.send 16 [0x02, 0x1D] = .send t payload ∧ (t = 1 ∨ t = 16 ∨ t = 64) ∧ payload.length ≤ t ∧
        0x02 :: 0x1D :: zeros 14 = payload ++ List.replicate (t - payload.length) 0) ∧
      (∀ i ∈ [Instr.xchg 0 [], .xchgStatus], ∃ c params, Claims.commandOf i = some (c, params) ∧
        c.paramsOk params.length = true ∧ 0x02 :: 0x1D :: zeros 14 = c.packet params) ∧
      ∃ n, TxAnswer.done 15 = .done n ∧ n < (0x02 :: 0x1D :: zeros 14).length :=
  ⟨rfl, rfl, ⟨16, [0x02, 0x1D], rfl, by decide, by decide, rfl⟩, by
    simp only [List.forall_mem_cons, List.not_mem_nil, false_imp_iff, implies_true, and_true]
    exact ⟨⟨.status, [], rfl, rfl, rfl⟩, .status, [], rfl, rfl, rfl⟩, 15, rfl,
    by decide⟩

theorem witness_RecvReturnsResponse :
    ((linked [] [.data (zeros 64)]).fatal = false ∧ (linked [] [.data (zeros 64)]).rxAnswers = .data (zeros 64) :: [] ∧
        (zeros 64).length ≤ 64) ∧
      ((linked [] [.data []]).rxAnswers = .data [] :: [] ∧ ([] : List Byte).length ≤ 64) ∧
      ((linked [] [.error]).fatal = false ∧ (linked [] [.error]).rxAnswers = .error :: []) ∧ dead.fatal = true := by decide

theorem witness_ReceiveFaultIsFatal :
    (linked [.done 64] [.error]).fatal = false ∧ 
      Claims.commandOf (.xchg 17 (zeros 60)) = some (.rasterblk, zeros 60) ∧
      Claims.commandOf (.xchgRasterblk (zeros 60)) = some (.rasterblk, zeros 60) ∧ Cmd.rasterblk ≠ .cancel ∧
      Cmd.rasterblk.paramsOk (zeros 60).length = true ∧
      (linked [.done 64] [.error]).txAnswers = .done Cmd.rasterblk.tsize :: [] ∧
      (linked [.done 64] [.error]).rxAnswers = .error :: [] := by decide

theorem witness_UnansweredTransferHangs :
    (State.reset.fatal = false ∧ (64 = 1 ∨ 64 = 16 ∨ 64 = 64) ∧ (zeros 64).length ≤ 64 ∧
        State.reset.txAnswers.head?.getD .silent = .silent) ∧
      ((linked [] [.silent, .data []]).fatal = false ∧
        (linked [] [.silent, .data []]).rxAnswers.head?.getD .silent = .silent) ∧
      (Claims.commandOf .xchgCancel = some (.cancel, []) ∧ Cmd.cancel.paramsOk ([] : List Byte).length = true) ∧
      (Claims.commandOf .xchgStatus = some (.status, []) ∧ Cmd.status ≠ .cancel ∧
        Cmd.status.paramsOk ([] : List Byte).length = true ∧ (linked [.done 16] []).fatal = false ∧
        (linked [.done 16] []).txAnswers = .done Cmd.status.tsize :: [] ∧
        (linked [.done 16] []).rxAnswers.head?.getD .silent = .silent) ∧
      (hanging (.op ⟨.hop, [0x11]⟩)).waiting.isSome = true ∧
      ∀ rest, (hanging (.op ⟨.hop, [0x11]⟩)).host ≠ .reset :: rest :=
  ⟨by decide, by decide, by decide, by decide, rfl, by simp [hanging]⟩

/-- The hypotheses of `Claims.CommandRuns` for a packet of 1, 16 or 64 bytes and a response of this length. -/
theorem witness_CommandRuns :
    ∀ size ∈ [1, 16, 64], ∀ count ∈ [0, 1, 5, 6, 64],
      (linked [.done size] [.data (zeros count)]).fatal = false ∧
        (linked [.done size] [.data (zeros count)]).txAnswers = .done (zeros size).length :: [] ∧
        (linked [.done size] [.data (zeros count)]).rxAnswers = .data (zeros count) :: [] ∧
        (zeros count).length ≤ 64 := by decide

theorem witness_PlainAckCommands :
    (linked [.done 1] [.data [0x06]]).fatal = false ∧
      (linked [.done 1] [.data [0x06]]).txAnswers = .done ([0x0C] : List Byte).length :: [] ∧
      (linked [.done 1] [.data [0x06]]).rxAnswers = .data [0x06] :: [] ∧ Claims.isAck [0x06] ∧ ¬ Claims.isAck [0x1E] :=
  ⟨rfl, rfl, rfl, rfl, by simp [Claims.isAck]⟩

theorem witness_OperandAckCommands :
    (linked [.done 16] [.data [0x1E]]).fatal = false ∧
      (linked [.done 16] [.data [0x1E]]).txAnswers =
        .done ([0x02, 0x0D, 0x01, 0x00, 0xFF, 0, 0, 0, 0, 0, 0, 0, 0, 0, 0, 0] : List Byte).length :: [] ∧
      (linked [.done 16] [.data [0x1E]]).rxAnswers = .data [0x1E] :: [] := by decide

theorem witness_ExactResponseCommands :
    (linked [.done 16] [.data [0x02, 0x80, 0x01, 0x00, 0x01]]).fatal = false ∧
      (linked [.done 16] [.data [0x02, 0x80, 0x01, 0x00, 0x01]]).txAnswers = .done (0x02 :: 0x82 :: zeros 14).length :: [] ∧
      ([0x02, 0x80, 0x01, 0x00, 0x01] : List Byte) ≠ [0x02, 0x80, 0x02, 0x00, 0x00, 0xA6] := by decide

theorem witness_GetTapeChecksLength :
    (linked [.done 16] [.data (zeros 5)]).fatal = false ∧
      (linked [.done 16] [.data (zeros 5)]).txAnswers = .done (0x02 :: 0x1A :: zeros 14).length :: [] ∧
      (zeros 5).length = 5 ∧ (zeros 4).length ≠ 5 ∧ (zeros 6).length ≠ 5 := by decide

theorem witness_TapeCheckFrames :
    (linked [.done 16] [.data [0x06]]).fatal = false ∧
      (linked [.done 16] [.data [0x06]]).txAnswers =
        .done ([0x02, 0x17, 0x02, 0, 0, 0x81, 0x00, 0, 0, 0, 0, 0, 0, 0, 0, 0] : List Byte).length :: [] := by decide

theorem witness_CancelReceivesNothing :
    (linked [.done 1] [.data [0x06]]).fatal = false ∧ (linked [.done 1] [.data [0x06]]).txAnswers = .done 1 :: [] := by decide

theorem witness_RasterBlockCommand :
    (zeros 60).length ≤ 60 ∧ ([] : List Byte).length ≤ 60 ∧ State.reset.fatal = false ∧ 60 < (zeros 61).length ∧
      ∃ t calls, exec .rxfer (patterned [.done 64] []) = .next t ∧ Claims.Made (patterned [.done 64] []) t calls ∧
        ∃ p ∈ sentPackets calls, p.length = 64 := by
  refine ⟨by decide, by decide, rfl, by decide, _, (after .rxfer (patterned [.done 64] [])).trace, rfl, rfl, ?_⟩
  decide

theorem witness_SetgeomWritesGeometry :
    (State.reset.fatal = false ∧ 1 ≤ 1 ∧ 1 ≤ Config.wMax ∧ 1 ≤ 129 - 1 ∧ 128 ≤ Config.hInMax) ∧
      (1 ≤ Config.wMax ∧ Config.wMax ≤ Config.wMax ∧ 1 ≤ Config.hInMax ∧ Config.hInMax ≤ Config.hInMax) ∧
      (Config.wMax < Config.wMax + 1 ∧ Config.hInMax < Config.hInMax + 1) ∧ dead.fatal = true := by
  have h1 := one_le_wMax
  have h2 := le_hInMax
  refine ⟨⟨rfl, le_rfl, h1, by decide, h2⟩, ⟨h1, le_rfl, by omega, le_rfl⟩, ⟨by omega, by omega⟩, rfl⟩

theorem witness_WrbmWritesOneByte :
    ((bitmap 9 2 []).fatal = false ∧ 3 < (bitmap 9 2 []).stride * (bitmap 9 2 []).hin) ∧
      (bitmap 9 2 []).stride * (bitmap 9 2 []).hin ≤ 4 ∧ dead.fatal = true := by decide

theorem witness_RdbmReturnsByte :
    ((bitmap 9 2 []).fatal = false ∧ 3 < (bitmap 9 2 []).stride * (bitmap 9 2 []).hin) ∧
      (bitmap 9 2 []).stride * (bitmap 9 2 []).hin ≤ 4 ∧ dead.fatal = true := by decide

theorem witness_BitmapByteStays :
    (bitmap 1 1 []).fatal = false ∧ 0 < (bitmap 1 1 []).stride * (bitmap 1 1 []).hin ∧
      ∃ t, exec (.wrbm 0 0x80) (bitmap 1 1 []) = .next t ∧ (∀ v, Instr.xpose ≠ .wrbm 0 v) ∧
        (∀ w h, Instr.xpose ≠ .setgeom w h) ∧ ∃ u, exec .xpose t = .next u :=
  ⟨rfl, by decide, _, rfl, by simp, by simp, _, rfl⟩

theorem witness_XposeBuildsPattern :
    ((bitmap 1 129 []).fatal = false ∧ (bitmap 1 129 []).w ≠ 0) ∧
      (State.reset.fatal = false ∧ State.reset.w = 0) ∧ dead.fatal = true := by decide

/-- An XPOSE of this Bitmap meets what the statements about XPOSE assume. -/
theorem witness_XposeIsTheThreeLoops :
    (bitmap 3 2 [0xA0, 0x60]).fatal = false ∧ (bitmap 3 2 [0xA0, 0x60]).w ≠ 0 ∧
      (bitmap 3 2 [0xA0, 0x60]).GeometryAgrees ∧ ∃ t, exec .xpose (bitmap 3 2 [0xA0, 0x60]) = .next t :=
  ⟨rfl, by decide, ⟨rfl, rfl, rfl, rfl⟩, _, rfl⟩

theorem witness_ImageIsCentred :
    ∀ h ∈ [1, 127, 128, 129], (bitmap 1 h []).fatal = false ∧ (bitmap 1 h []).w ≠ 0 ∧
      (bitmap 1 h []).GeometryAgrees ∧ ∃ t, exec .xpose (bitmap 1 h []) = .next t :=
  fun _ _ => ⟨(rfl : (State.reset.setGeometry 1 1).fatal = false), Nat.one_ne_zero, ⟨rfl, rfl, rfl, rfl⟩, _, rfl⟩

theorem witness_UntransposeGivesBitmapBack :
    (bitmap 3 128 []).fatal = false ∧ (bitmap 3 128 []).w ≠ 0 ∧ (bitmap 3 128 []).hin ≤ 128 ∧
      (bitmap 3 128 []).GeometryAgrees ∧ ∃ t, exec .xpose (bitmap 3 128 []) = .next t :=
  ⟨rfl, by decide, by decide, ⟨rfl, rfl, rfl, rfl⟩, _, rfl⟩

/-- Two Bitmaps of one column that differ in a pad bit. -/
theorem witness_PadBitsAndDroppedRowsIgnored :
    (bitmap 1 1 [0x80]).fatal = false ∧ (bitmap 1 1 [0xC0]).fatal = false ∧ (bitmap 1 1 [0x80]).w ≠ 0 ∧
      (bitmap 1 1 [0xC0]).w = (bitmap 1 1 [0x80]).w ∧ (bitmap 1 1 [0xC0]).h = (bitmap 1 1 [0x80]).h ∧
      (bitmap 1 1 [0xC0]).padtop = (bitmap 1 1 [0x80]).padtop ∧
      (∀ r < (bitmap 1 1 [0x80]).h, ∀ x < (bitmap 1 1 [0x80]).w,
        (bitmap 1 1 [0xC0]).pixel r x = (bitmap 1 1 [0x80]).pixel r x) ∧
      (∃ t, exec .xpose (bitmap 1 1 [0x80]) = .next t) ∧ ∃ t, exec .xpose (bitmap 1 1 [0xC0]) = .next t :=
  ⟨rfl, rfl, by decide, rfl, rfl, rfl, by decide, ⟨_, rfl⟩, _, rfl⟩

theorem witness_XposeAgainGivesTheSame :
    (bitmap 1 1 [0x80]).fatal = false ∧ (bitmap 1 1 [0x80]).w ≠ 0 ∧
      ∃ t, exec .xpose (bitmap 1 1 [0x80]) = .next t ∧ ∃ u, exec .xpose t = .next u :=
  ⟨rfl, by decide, _, rfl, _, rfl⟩

theorem witness_OnePixelOneBit :
    (bitmap 10 4 []).fatal = false ∧ (bitmap 10 4 []).w ≠ 0 ∧ (bitmap 10 4 []).GeometryAgrees ∧
      ∃ t, exec .xpose (bitmap 10 4 []) = .next t :=
  ⟨rfl, by decide, ⟨rfl, rfl, rfl, rfl⟩, _, rfl⟩

theorem witness_AllBlackSquare :
    (bitmap 16 16 (List.replicate 32 0xFF)).fatal = false ∧ (bitmap 16 16 (List.replicate 32 0xFF)).w = 16 ∧
      (bitmap 16 16 (List.replicate 32 0xFF)).h = 16 ∧ (bitmap 16 16 (List.replicate 32 0xFF)).padtop = 56 ∧
      (bitmap 16 16 (List.replicate 32 0xFF)).stride = 2 ∧
      (∀ a < 32, (bitmap 16 16 (List.replicate 32 0xFF)).bmByte a = 0xFF) ∧
      ∃ t, exec .xpose (bitmap 16 16 (List.replicate 32 0xFF)) = .next t :=
  ⟨rfl, rfl, rfl, rfl, rfl, by decide, _, rfl⟩

theorem witness_RdpmReturnsByte :
    ((bitmap 1 1 []).fatal = false ∧ 15 < (bitmap 1 1 []).n) ∧ (bitmap 1 1 []).n ≤ 16 ∧ dead.fatal = true := by decide

theorem witness_ScheduleCoversThePattern :
    Item.block 8160 32 ∈ rasterSchedule 8208 ∧ Item.block 8192 16 ∈ rasterSchedule 8208 := by
  refine ⟨?_, ?_⟩ <;>
    · refine List.mem_flatMap.mpr ?_
      first
        | exact ⟨0, by decide, List.mem_append_left _ (List.mem_append_left _ (List.mem_append_right _ (by decide)))⟩
        | exact ⟨1, by decide, by decide⟩

/-- The link answers every exchange of a transfer of one column in full and with ACK. -/
theorem witness_RxferRunsTheSchedule :
    (patterned [.done 64, .done 16, .done 1] [.data [6], .data [6], .data [6]]).fatal = false ∧
      (patterned [.done 64, .done 16, .done 1] [.data [6], .data [6], .data [6]]).pvalid = true ∧
      1 ≤ (patterned [.done 64, .done 16, .done 1] [.data [6], .data [6], .data [6]]).n ∧
      (patterned [.done 64, .done 16, .done 1] [.data [6], .data [6], .data [6]]).txAnswers =
        (rasterSchedule (patterned [.done 64, .done 16, .done 1] [.data [6], .data [6], .data [6]]).n).map (fun i =>
          .done ((patterned [.done 64, .done 16, .done 1] [.data [6], .data [6], .data [6]]).itemPacket i).length) ++ [] ∧
      (patterned [.done 64, .done 16, .done 1] [.data [6], .data [6], .data [6]]).rxAnswers =
        (rasterSchedule (patterned [.done 64, .done 16, .done 1] [.data [6], .data [6], .data [6]]).n).map (fun _ =>
          .data [0x06]) ++ [] := by decide

theorem witness_RxferSendsAnInitialPiece :
    (patterned [.done 64, .done 16] [.data [6], .data [0x1E]]).fatal = false ∧
      (patterned [.done 64, .done 16] [.data [6], .data [0x1E]]).pvalid = true ∧
      ∃ t, exec .rxfer (patterned [.done 64, .done 16] [.data [6], .data [0x1E]]) = .next t :=
  ⟨rfl, rfl, _, rfl⟩

/-- A transfer that completes, and one whose Print page is answered with NAK. -/
theorem witness_RegistersAfterTransfer :
    (resultOf .rxfer (patterned [.done 64, .done 16, .done 1] [.data [6], .data [6], .data [6]]) = some (.ok .none)) ∧
      (∃ b, resultOf .rxfer (patterned [.done 64, .done 16, .done 1] [.data [6], .data [6], .data [0x1E]]) =
        some (.mismatch b)) ∧
      resultOf .rxfer (patterned [.error] []) = some .fatal :=
  ⟨by decide, ⟨[0x1E], by decide⟩, by decide⟩

theorem witness_CompletedTransferCounts :
    1 ≤ (patterned [.done 64, .done 16, .done 1] [.data [6], .data [6], .data [6]]).n ∧
      ∃ t, exec .rxfer (patterned [.done 64, .done 16, .done 1] [.data [6], .data [6], .data [6]]) = .next t ∧
        t.result = some (.ok .none) := by
  refine ⟨by decide, _, rfl, ?_⟩
  decide

theorem witness_RxferIsTheByteLoop :
    (patterned [.done 64] []).fatal = false ∧ (patterned [.done 64] []).pvalid = true ∧
      1 ≤ (patterned [.done 64] []).n ∧ (patterned [.done 64] []).blkbuf.wf := by decide

/-- A state that meets the invariant and waits for nothing, its schedule three exchanges long. -/
theorem witness_RxferIsItsExchangeSteps :
    (rasterSchedule (patterned [] []).n).length ≤ 3 ∧
      (State.Inv { patterned [] [] with host := [.op ⟨.hop, [0x11]⟩] } ∧
        ({ patterned [] [] with host := [.op ⟨.hop, [0x11]⟩] } : State).waiting = none) :=
  ⟨by decide, witness_StepKeepsInv.1, rfl⟩

/-- A reset after the second of the three exchanges, and one before the first. -/
theorem witness_ResetBetweenExchanges :
    ∀ j ∈ [0, 2],
      (resetIn j [.done 64, .done 16] [.data [6], .data [6]]).waiting = none ∧
      (resetIn j [.done 64, .done 16] [.data [6], .data [6]]).host = .opReset ⟨.hop, [0x30]⟩ j :: [] ∧
      (decode ⟨.hop, [0x30]⟩).toOption = some .rxfer ∧
      (resetIn j [.done 64, .done 16] [.data [6], .data [6]]).fatal = false ∧
      (resetIn j [.done 64, .done 16] [.data [6], .data [6]]).pvalid = true ∧
      j ≤ (rasterSchedule (resetIn j [.done 64, .done 16] [.data [6], .data [6]]).n).length ∧
      (resetIn j [.done 64, .done 16] [.data [6], .data [6]]).txAnswers =
        ((rasterSchedule (resetIn j [.done 64, .done 16] [.data [6], .data [6]]).n).take j).map (fun i =>
          .done ((resetIn j [.done 64, .done 16] [.data [6], .data [6]]).itemPacket i).length) ++
        [TxAnswer.done 64, .done 16].drop j ∧
      (resetIn j [.done 64, .done 16] [.data [6], .data [6]]).rxAnswers =
        ((rasterSchedule (resetIn j [.done 64, .done 16] [.data [6], .data [6]]).n).take j).map (fun _ =>
          .data [0x06]) ++ [RxAnswer.data [6], .data [6]].drop j := by decide

end Sys2Proof.Tests
end

/-! The frame formatter's operations RECV and SEND (40_frame_formatter.md): what RXBUF holds after a response is stored,
what a link call uses up and records, and what the two operations do for each answer of the link. -/

namespace Sys2Proof.Machine

open Sys2Proof

/-! ### RXBUF after a response is stored (R76) -/

/-- A byte read after a whole string is written: inside it the string's own byte, elsewhere what was there. -/
theorem read_pokeAll (m : Mem) (buffer : Buffer) (epoch a x : Nat) (bs : List Byte) :
    (m.pokeAll a bs).read buffer epoch x =
      if a ≤ x ∧ x < a + bs.length then bs.getD (x - a) 0 else m.read buffer epoch x := by
  unfold Mem.read
  rw [peek_pokeAll]
  split
  · rename_i hin
    have hx : x - a < bs.length := by omega
    simp [hx]
  · rfl

theorem rxByte_storeResponse (s : State) (b : List Byte) (a : Nat) :
    (s.storeResponse b).rxByte a = if a < b.length then b.getD a 0 else s.rxByte a := by
  simp [State.rxByte, read_pokeAll]

@[simp] theorem rxBytes_storeResponse (s : State) (b : List Byte) : (s.storeResponse b).rxBytes = b := by
  apply List.ext_getElem
  · simp [State.rxBytes]
  · intro i _ hi
    simp [State.rxBytes, rxByte_storeResponse, hi]

@[simp] theorem rxBytes_finish (s : State) (r : Result) : (s.finish r).rxBytes = s.rxBytes := rfl
@[simp] theorem rxByte_finish (s : State) (r : Result) (a : Nat) : (s.finish r).rxByte a = s.rxByte a := rfl
@[simp] theorem rxByte_linkRx (s : State) (a : Nat) : s.linkRx.rxByte a = s.rxByte a := rfl

/-! ### What a link call uses up and records (R54) -/

theorem linkTx_eq {s : State} {answer : TxAnswer} {rest : List TxAnswer} (packet : List Byte)
    (h : s.txAnswers = answer :: rest) :
    s.linkTx packet =
      { s with txAnswers := rest, trace := s.trace ++ [.tx packet (txAdmit packet.length answer)] } := by
  simp [State.linkTx, State.txAnswer, h]

theorem linkRx_eq {s : State} {answer : RxAnswer} {rest : List RxAnswer} (h : s.rxAnswers = answer :: rest) :
    s.linkRx = { s with rxAnswers := rest, trace := s.trace ++ [.rx (rxAdmit answer)] } := by
  simp [State.linkRx, State.rxAnswer, h]

@[simp] theorem txAdmit_done_self (t : Nat) : txAdmit t (.done t) = .done t := by simp [txAdmit]

theorem rxAdmit_data {b : List Byte} (hb : b.length ≤ 64) : rxAdmit (.data b) = .data b := by
  simp [rxAdmit, List.take_of_length_le hb]

@[simp] theorem rxAdmit_error : rxAdmit .error = .error := rfl

theorem statusFault_eq_or (f : BitVec 3) : statusFault f = f ||| 4#3 := rfl

theorem receive_error {s : State} {rest : List RxAnswer} (h : s.rxAnswers = .error :: rest) :
    receive s = .ended s.linkRx.transportFault := by
  simp [receive, State.rxAnswer, h]

/-! ### RECV (R75) -/

theorem exec_recv_data {s : State} {b : List Byte} {rest : List RxAnswer} (hlive : s.fatal = false)
    (h : s.rxAnswers = .data b :: rest) (hb : b.length ≤ 64) :
    exec .recv s = .next ((s.linkRx.storeResponse b).finish (.ok (.bytes b))) := by
  simp [exec, execRecv, unlessDead_live hlive, receive_data h hb]

theorem exec_recv_error {s : State} {rest : List RxAnswer} (hlive : s.fatal = false)
    (h : s.rxAnswers = .error :: rest) : exec .recv s = .next s.linkRx.transportFault := by
  simp [exec, execRecv, unlessDead_live hlive, receive_error h]

theorem exec_recv_dead {s : State} (hdead : s.fatal = true) :
    exec .recv s = .next (s.finish (.refused .dead)) := by
  simp [exec, execRecv, unlessDead_dead hdead]

/-- Settles O30, by one equation of RECV for each of its three cases. The bytes of RXBUF come from
`rxBytes_storeResponse` inside the response and from `rxByte_storeResponse` past it. -/
theorem recvReturnsResponse : Obligations.RecvReturnsResponse := by
  intro s rrest
  refine ⟨fun b hlive hrx hb => ?_, fun hlive hrx => ?_, exec_recv_dead⟩
  · refine ⟨_, exec_recv_data hlive hrx hb, by simp, fun a ha => ?_, ?_⟩
    · simp [rxByte_storeResponse, Nat.not_lt.mpr ha]
    · rw [linkRx_eq hrx, rxAdmit_data hb]
      rfl
  · rw [exec_recv_error hlive hrx, linkRx_eq hrx, rxAdmit_error, State.transportFault, statusFault_eq_or]

/-! ### SEND (R73) -/

theorem exec_send_done {s : State} {t n : Nat} {payload : List Byte} {rest : List TxAnswer} (hlive : s.fatal = false)
    (hsize : sizeOk payload.length t = true) (h : s.txAnswers = .done n :: rest) (hn : t ≤ n) :
    exec (.send t payload) s = .next ((s.linkTx (pad payload t)).finish (.ok .none)) := by
  have hlen : (pad payload t).length = t := pad_length ((sizeOk_iff _ _).mp hsize).2
  simp [exec, execSend, unlessDead_live hlive, hsize, transmit_done h (hlen.trans_le hn)]

/-- Settles O28: the size contract holds, so the one link call hands over the padded packet, whose `t` bytes the answer
covers. -/
theorem sendPadsAndSends : Obligations.SendPadsAndSends := by
  intro s t payload trest hlive ht hp htx
  have hsize : sizeOk payload.length t = true := (sizeOk_iff _ _).mpr ⟨by simpa using ht, hp⟩
  rw [exec_send_done hlive hsize htx le_rfl, linkTx_eq _ htx, pad_length hp, txAdmit_done_self]
  rfl

end Sys2Proof.Machine

/-! The command frames (41_command_frames.md): what a command does when the link takes its whole packet and delivers a
response, for each command's packet; Cancel job, which receives nothing; and the block lengths of the frames a transfer
sends (43_raster_chunker.md R121, R122). -/

namespace Sys2Proof.Machine

open Sys2Proof

/-! ### A command in either form (R70, R81) -/

/-- `XCHG k, params` and `X.<NAME>` have one meaning: the checks of R81 in their order, then the command's exchange. -/
theorem exec_of_commandOf {i : Instr} {c : Cmd} {params : List Byte} (hi : Claims.commandOf i = some (c, params))
    (s : State) :
    exec i s = .next (s.unlessDead fun s =>
      if c.paramsOk params.length then (exchangeCmd c params s).finally fun d s1 => s1.ok d else s.refuse .size) := by
  cases i
  case xchg k operands =>
    obtain ⟨d, hk, hd⟩ := Option.map_eq_some_iff.mp hi
    cases hd
    simp only [exec, execXchg, runCommand, hk]
  all_goals cases hi <;> rfl

theorem exec_command_live {i : Instr} {c : Cmd} {params : List Byte} {s : State}
    (hi : Claims.commandOf i = some (c, params)) (hok : c.paramsOk params.length = true) (hlive : s.fatal = false) :
    exec i s = .next ((exchangeCmd c params s).finally fun d s1 => s1.ok d) := by
  rw [exec_of_commandOf hi, unlessDead_live hlive, if_pos hok]

theorem exec_command_wrongSize {i : Instr} {c : Cmd} {params : List Byte} {s : State}
    (hi : Claims.commandOf i = some (c, params)) (hbad : c.paramsOk params.length = false) (hlive : s.fatal = false) :
    exec i s = .next (s.finish (.refused .size)) := by
  rw [exec_of_commandOf hi, unlessDead_live hlive, if_neg (by simp [hbad]), refuse_eq_finish]

/-- A command that receives, its packet written in full and a response delivered (R78). -/
theorem exec_command_response {i : Instr} {c : Cmd} {params b : List Byte} {s : State} {trest : List TxAnswer}
    {rrest : List RxAnswer} (hi : Claims.commandOf i = some (c, params)) (hok : c.paramsOk params.length = true)
    (he : cmdExpect c ≠ .none) (hlive : s.fatal = false) (htx : s.txAnswers = .done c.tsize :: trest)
    (hrx : s.rxAnswers = .data b :: rrest) (hb : b.length ≤ 64) :
    exec i s = .next (((s.linkTx (c.packet params)).linkRx.storeResponse b).finish
      (if responseMatches (cmdExpect c) b then .ok (.bytes b) else .mismatch b)) := by
  rw [exec_command_live hi hok hlive, exchangeCmd,
    exchange_response he (template_length_le hok) htx le_rfl hrx hb, checkResponse]
  split <;> rfl

@[simp] theorem rxByte_linkTx (s : State) (p : List Byte) (a : Nat) : (s.linkTx p).rxByte a = s.rxByte a := rfl

/-- Every command that receives runs as R78 has it: the response stands in RXBUF, and `Match` decides the result. -/
theorem commandRuns_of_commandOf {i : Instr} {c : Cmd} {params : List Byte} {good : List Byte → Prop}
    (hi : Claims.commandOf i = some (c, params)) (hok : c.paramsOk params.length = true) (he : cmdExpect c ≠ .none)
    (hgood : ∀ b, responseMatches (cmdExpect c) b = true ↔ good b) :
    Claims.CommandRuns i (c.packet params) good := by
  intro s b trest rrest hlive htx hrx hb
  have hlen := packet_length hok
  rw [hlen] at htx ⊢
  refine ⟨_, exec_command_response hi hok he hlive htx hrx hb, fun a ha => ?_, fun a ha => ?_, ?_, ?_⟩
  · simp [rxByte_storeResponse, ha]
  · simp [rxByte_storeResponse, Nat.not_lt.mpr ha]
  · by_cases hm : good b <;> simp [hgood, hm]
  · have hrx' : (s.linkTx (c.packet params)).rxAnswers = .data b :: rrest := hrx
    rw [linkRx_eq hrx', rxAdmit_data hb, linkTx_eq _ htx, hlen, txAdmit_done_self]
    simp [State.finish, State.storeResponse]

/-- Both forms of a command run so, its packet written out. -/
theorem commandRunsAs_of_commandOf {i : Instr} {c : Cmd} {k : Nat} {params packet : List Byte}
    {good : List Byte → Prop} (hi : Claims.commandOf i = some (c, params)) (hk : Cmd.ofIndex k = some c)
    (hok : c.paramsOk params.length = true) (hpacket : c.packet params = packet) (he : cmdExpect c ≠ .none)
    (hgood : ∀ b, responseMatches (cmdExpect c) b = true ↔ good b) :
    Claims.CommandRunsAs i k params packet good := by
  have hxchg : Claims.commandOf (.xchg k params) = some (c, params) := by simp [Claims.commandOf, hk]
  subst hpacket
  exact ⟨commandRuns_of_commandOf hi hok he hgood, commandRuns_of_commandOf hxchg hok he hgood⟩

/-! ### The commands that expect ACK (R77) -/

theorem responseMatches_ack_iff (b : List Byte) : responseMatches .ack b = true ↔ Claims.isAck b := by
  simp [responseMatches, Claims.isAck]

theorem responseMatches_exact_iff (q b : List Byte) : responseMatches (.exact q) b = true ↔ b = q := by
  simp [responseMatches]

theorem ackCommand_runsAs {i : Instr} {c : Cmd} {k : Nat} {params packet : List Byte}
    (hi : Claims.commandOf i = some (c, params)) (hk : Cmd.ofIndex k = some c)
    (hok : c.paramsOk params.length = true) (hpacket : c.packet params = packet) (hack : cmdExpect c = .ack) :
    Claims.CommandRunsAs i k params packet Claims.isAck :=
  commandRunsAs_of_commandOf hi hk hok hpacket (by simp [hack]) (by simp [hack, responseMatches_ack_iff])

/-- Settles O33: each conjunct is `ackCommand_runsAs` at the command's row of the table, whose template padded to its
transfer size is the packet the rule writes out. -/
theorem plainAckCommands : Obligations.PlainAckCommands :=
  ⟨ackCommand_runsAs (c := .reset) rfl rfl rfl rfl rfl,
    ackCommand_runsAs (c := .cut) rfl rfl rfl rfl rfl,
    ackCommand_runsAs (c := .halfcut) rfl rfl rfl rfl rfl,
    ackCommand_runsAs (c := .feed) rfl rfl rfl rfl rfl,
    ackCommand_runsAs (c := .prejob1) rfl rfl rfl rfl rfl,
    ackCommand_runsAs (c := .speed) rfl rfl rfl rfl rfl,
    ackCommand_runsAs (c := .rasterend) rfl rfl rfl rfl rfl,
    ackCommand_runsAs (c := .printpage) rfl rfl rfl rfl rfl⟩

/-- Settles O34: as `plainAckCommands`, the packet an equation in the operand bytes, which the template copies. -/
theorem operandAckCommands : Obligations.OperandAckCommands :=
  ⟨fun _ _ => ackCommand_runsAs (c := .tapechk) rfl rfl rfl rfl rfl,
    fun _ => ackCommand_runsAs (c := .margin) rfl rfl rfl rfl rfl,
    fun _ => ackCommand_runsAs (c := .density) rfl rfl rfl rfl rfl,
    fun _ => ackCommand_runsAs (c := .cutter) rfl rfl rfl rfl rfl,
    fun _ => ackCommand_runsAs (c := .prefeed) rfl rfl rfl rfl rfl⟩

/-! ### The commands that expect an exact response (R83, R90) -/

/-- Settles O35: `Match` against an exact response is equality with it. -/
theorem exactResponseCommands : Obligations.ExactResponseCommands :=
  ⟨commandRunsAs_of_commandOf (c := .status) rfl rfl rfl rfl (by decide) (responseMatches_exact_iff _),
    commandRunsAs_of_commandOf (c := .prejob2) rfl rfl rfl rfl (by decide) (responseMatches_exact_iff _)⟩

/-! ### The tape codes (R101) -/

/-- The Tape-check frame of a tape carries its code's two bytes, high byte first. -/
theorem tapeCheck_runs (tape : Tape) :
    Claims.CommandRuns (tapeCheck tape)
      [0x02, 0x17, 0x02, 0, 0, tapeHi (tapeCode tape), tapeLo (tapeCode tape), 0, 0, 0, 0, 0, 0, 0, 0, 0]
      Claims.isAck :=
  have ⟨htapechk, _⟩ := operandAckCommands
  (htapechk _ _).1

/-- Settles O37: `tapeCheck_runs` at each tape, the two bytes of its code computed. -/
theorem tapeCheckFrames : Obligations.TapeCheckFrames :=
  ⟨tapeCheck_runs .mm6, tapeCheck_runs .mm9, tapeCheck_runs .mm12, tapeCheck_runs .mm18, tapeCheck_runs .mm24,
    tapeCheck_runs .none⟩

/-! ### Cancel job (R88) -/

/-- Settles O38: the exchange of a command that expects nothing ends with its send. -/
theorem cancelReceivesNothing : Obligations.CancelReceivesNothing := by
  intro s trest hlive htx i hi
  have hcmd : Claims.commandOf i = some (.cancel, []) := by obtain rfl | rfl := hi <;> rfl
  have hexchange : exchangeCmd .cancel [] s = .done .none (s.linkTx [0x18]) :=
    exchange_noResponse (payload := [0x18]) le_rfl htx le_rfl
  rw [exec_command_live hcmd rfl hlive, hexchange, linkTx_eq _ htx]
  rfl

/-! ### What one exchange sends -/

theorem sentPackets_append (e1 e2 : List LinkEvent) : sentPackets (e1 ++ e2) = sentPackets e1 ++ sentPackets e2 :=
  List.filterMap_append

/-- What carries `P` through an exchange once its packet is handed to the link. `LinkRules` asks that every send keep the
property, which one about the packets themselves does not meet. -/
structure ReplyRules (P : State → Prop) : Prop where
  rx : ∀ s, P s → P s.linkRx
  store : ∀ s b, P s → P (s.storeResponse b)
  fault : ∀ s, P s → P s.transportFault
  stall : ∀ s x, P s → P (s.stall x)
  finish : ∀ s r, P s → P (s.finish r)

theorem meets_receive_of_reply {P : State → Prop} (R : ReplyRules P) {s : State} (h : P s) :
    (receive s).Meets P P := by
  have hrx := R.rx s h
  unfold receive
  split
  · exact R.fault _ hrx
  · exact R.stall _ _ hrx
  · exact R.store _ _ hrx

theorem meets_checkResponse_of_reply {P : State → Prop} (R : ReplyRules P) {s : State} (e : Expect) (b : List Byte)
    (h : P s) : (checkResponse e b s).Meets P P := by
  unfold checkResponse
  split
  · exact h
  · exact R.finish _ _ h

theorem meets_transmit_of_reply {P : State → Prop} (R : ReplyRules P) {s : State} {packet : List Byte}
    (h : P (s.linkTx packet)) : (transmit packet s).Meets P P := by
  unfold transmit
  split
  · exact R.fault _ h
  · exact R.stall _ _ h
  · split
    · exact R.fault _ h
    · exact h

/-- A property of the state just after the packet is handed over, which the link's replies keep, holds where the exchange
leaves the block, whatever the link answers. -/
theorem meets_exchange_of_reply {P : State → Prop} (R : ReplyRules P) {s : State} {payload : List Byte} {t : Nat}
    (e : Expect) (h : P (s.linkTx (pad payload t))) : (exchange payload t e s).Meets P P := by
  unfold exchange
  refine meets_andThen (meets_transmit_of_reply R h) fun _ s1 h1 => ?_
  split
  · exact h1
  · exact meets_andThen (meets_receive_of_reply R h1) fun b s2 h2 => meets_checkResponse_of_reply R _ _ h2

/-- `t` is `s` after the link calls of one exchange that sent `packet`; the registers a transfer steers by are as they
were. -/
structure AfterSending (s : State) (packet : List Byte) (t : State) : Prop where
  sent : ∃ calls, Claims.Made s t calls ∧ sentPackets calls = [packet]
  n : t.n = s.n
  pos : t.pos = s.pos
  blklen : t.blklen = s.blklen
  pagecnt : t.pagecnt = s.pagecnt

theorem afterSending_linkTx (s : State) (packet : List Byte) : AfterSending s packet (s.linkTx packet) :=
  ⟨⟨_, rfl, rfl⟩, rfl, rfl, rfl, rfl⟩

theorem afterSending_replyRules (s : State) (packet : List Byte) : ReplyRules (AfterSending s packet) where
  rx := fun t ⟨⟨calls, hcalls, hsent⟩, hn, hpos, hlen, hpage⟩ =>
    ⟨⟨calls ++ [.rx t.rxAnswer], by rw [Claims.Made, linkRx_trace, hcalls, List.append_assoc],
      by rw [sentPackets_append, hsent]; rfl⟩, hn, hpos, hlen, hpage⟩
  store := fun _ _ h => { h with }
  fault := fun _ h => { h with }
  stall := fun _ _ h => { h with }
  finish := fun _ _ h => { h with }

theorem meets_exchangeCmd_afterSending (c : Cmd) (params : List Byte) (s : State) :
    (exchangeCmd c params s).Meets (AfterSending s (c.packet params)) (AfterSending s (c.packet params)) :=
  meets_exchange_of_reply (afterSending_replyRules s _) _ (afterSending_linkTx s _)

/-! ### The block lengths a transfer sends (R100, R122) -/

/-- A packet of 64 bytes has a `blockLen` (R64) of 1 to 60. -/
def BlockLenInRange (p : List Byte) : Prop := p.length = 64 → 1 ≤ (p.getD 2 0).toNat ∧ (p.getD 2 0).toNat ≤ 60

/-- Every packet sent from `s` to `t` has its block length in range. -/
def SentInRange (s t : State) : Prop := ∃ calls, Claims.Made s t calls ∧ ∀ p ∈ sentPackets calls, BlockLenInRange p

theorem sentInRange_of_trace_eq {s t : State} (h : t.trace = s.trace) : SentInRange s t :=
  ⟨[], by simp [Claims.Made, h], by simp [sentPackets]⟩

theorem sentInRange_afterSending {s t u : State} {packet : List Byte} (hst : SentInRange s t)
    (htu : AfterSending t packet u) (hp : BlockLenInRange packet) : SentInRange s u := by
  obtain ⟨calls, hcalls, hrange⟩ := hst
  obtain ⟨more, hmore, hsent⟩ := htu.sent
  refine ⟨calls ++ more, ?_, ?_⟩
  · rw [Claims.Made, hmore, hcalls, List.append_assoc]
  · intro p hmem
    rw [sentPackets_append, hsent, List.mem_append, List.mem_singleton] at hmem
    obtain hmem | rfl := hmem
    · exact hrange p hmem
    · exact hp

theorem blockLenInRange_rasterblk {params : List Byte} (hpos : 1 ≤ params.length) (hmax : params.length ≤ 60) :
    BlockLenInRange (Cmd.rasterblk.packet params) := by
  intro _
  have hbyte : (Cmd.rasterblk.packet params).getD 2 0 = BitVec.ofNat 8 params.length := rfl
  rw [hbyte, BitVec.toNat_ofNat]
  omega

theorem blockLenInRange_of_tsize {c : Cmd} {params : List Byte} (hok : c.paramsOk params.length = true)
    (hc : c.tsize ≠ 64) : BlockLenInRange (c.packet params) :=
  fun hlen => absurd (packet_length hok ▸ hlen) hc

/-- What holds before each exchange of a transfer begun at `s`: when the next is a Raster block, the page is not full and
bytes are left, so that the block is not empty. -/
def TransferReady (s : State) (x : NextExchange) (t : State) : Prop :=
  SentInRange s t ∧ (x = .block → t.pagecnt < Config.pageBytes ∧ t.pos < t.n)

/-- `I` holds of the value and state a phase goes on with, and `Q` where the operation has ended. -/
def Phase.Leads {α : Type} (I : α → State → Prop) (Q : State → Prop) : Phase α → Prop
  | .done a s => I a s
  | .ended s => Q s

/-- An exchange whose packet is in range keeps what was sent in range, and goes on with `k` after it. -/
theorem leads_exchangeCmd {s t : State} {c : Cmd} {params : List Byte} {k : Data → State → Phase NextExchange}
    (hs : SentInRange s t) (hp : BlockLenInRange (c.packet params))
    (hk : ∀ d u, AfterSending t (c.packet params) u → SentInRange s u → (k d u).Leads (TransferReady s) (SentInRange s)) :
    ((exchangeCmd c params t).andThen k).Leads (TransferReady s) (SentInRange s) := by
  have hmeets := meets_exchangeCmd_afterSending c params t
  cases hx : exchangeCmd c params t <;> rw [hx] at hmeets
  case done d u => exact hk d u hmeets (sentInRange_afterSending hs hmeets hp)
  case ended u => exact sentInRange_afterSending hs hmeets hp

theorem nextBlockLen_pos {s : State} (hpage : s.pagecnt < Config.pageBytes) (hpos : s.pos < s.n) :
    1 ≤ s.nextBlockLen := by
  simp only [State.nextBlockLen, Config.blockMax, Config.pageBytes] at hpage ⊢
  omega

theorem nextBlockLen_le (s : State) :
    s.nextBlockLen ≤ 60 ∧ s.nextBlockLen ≤ Config.pageBytes - s.pagecnt ∧ s.nextBlockLen ≤ s.n - s.pos := by
  simp only [State.nextBlockLen, Config.blockMax, Config.pageBytes]
  omega

theorem afterBlock_eq_block_iff (s : State) :
    s.afterBlock = .block ↔ s.pos ≠ s.n ∧ s.pagecnt ≠ Config.pageBytes := by
  unfold State.afterBlock
  split_ifs <;> simp_all

@[simp] theorem pmBytes_length (s : State) (a len : Nat) : (s.pmBytes a len).length = len := by simp [State.pmBytes]

/-- An acknowledged block leaves room for the next one wherever a block follows. -/
theorem leads_blockExchange {s t : State} (h : TransferReady s .block t) :
    (blockExchange t).Leads (TransferReady s) (SentInRange s) := by
  obtain ⟨hs, hready⟩ := h
  obtain ⟨hpage, hpos⟩ := hready rfl
  have hlen := nextBlockLen_pos hpage hpos
  obtain ⟨hmax, hfit, hleft⟩ := nextBlockLen_le t
  have hrange : BlockLenInRange (Cmd.rasterblk.packet (t.pmBytes t.pos t.nextBlockLen)) :=
    blockLenInRange_rasterblk (by simpa using hlen) (by simpa using hmax)
  refine leads_exchangeCmd (t := t.nextBlock t.nextBlockLen) hs hrange fun _ u hu hsu => ⟨hsu, fun hnext => ?_⟩
  obtain ⟨hn, hp⟩ := (afterBlock_eq_block_iff _).mp hnext
  simp only [ackBlock_pos, ackBlock_n, ackBlock_pagecnt, hu.n, hu.pos, hu.blklen, hu.pagecnt, State.nextBlock,
    buildBlock_n, buildBlock_pos, buildBlock_blklen, buildBlock_pagecnt] at hn hp ⊢
  omega

theorem leads_exchangeStep {s t : State} {x : NextExchange} (h : TransferReady s x t) :
    (exchangeStep x t).Leads (TransferReady s) (SentInRange s) := by
  cases x with
  | block => exact leads_blockExchange h
  | rasterEnd =>
    exact leads_exchangeCmd h.1 (blockLenInRange_of_tsize rfl (by decide)) fun _ _ _ hsu => ⟨hsu, nofun⟩
  | printPage =>
    refine leads_exchangeCmd h.1 (blockLenInRange_of_tsize rfl (by decide)) fun _ u _ hsu => ?_
    split
    · rename_i hleft
      exact ⟨hsu, fun _ => ⟨by simp, hleft⟩⟩
    · exact hsu

theorem exchangeSteps_sentInRange {s t : State} {x : NextExchange} (steps : Nat) (h : TransferReady s x t) :
    (exchangeSteps steps x t).Meets (SentInRange s) (SentInRange s) :=
  exchangeSteps_rule steps x (fun _ _ hready => hready.1)
    (fun y u hready => by
      have hleads := leads_exchangeStep hready
      cases hx : exchangeStep y u <;> rw [hx] at hleads <;> exact hleads) h

/-- Whatever the link answers, a transfer sends no Raster block without payload and none above 60 bytes. -/
theorem rxferUpTo_sentInRange (s : State) (steps : Nat) : SentInRange s (s.rxferUpTo steps) :=
  rxferUpTo_rule steps (fun _ => sentInRange_of_trace_eq rfl) (fun _ _ => sentInRange_of_trace_eq rfl)
    (fun _ _ _ => sentInRange_of_trace_eq rfl)
    (fun _ _ hn => state_of_meets (exchangeSteps_sentInRange steps
      ⟨sentInRange_of_trace_eq rfl, fun _ => ⟨by simp, hn⟩⟩))

/-! ### Raster block (R100) -/

theorem rasterblk_packet {payload : List Byte} (h : payload.length ≤ 60) :
    Cmd.rasterblk.packet payload =
      [0x02, 0xFE, BitVec.ofNat 8 payload.length, 0x00] ++ payload ++ List.replicate (60 - payload.length) 0 := by
  have hzeros : 64 - (payload.length + 4) = 60 - payload.length := by omega
  simp [Cmd.packet, pad, Cmd.template, Cmd.tsize, zeros, hzeros]

/-- Settles O39: the command by `ackCommand_runsAs`, its refusal by the parameter check, and the blocks of a transfer by
the invariant `TransferReady`, which its exchange steps keep. -/
theorem rasterBlockCommand : Obligations.RasterBlockCommand := by
  refine ⟨fun payload hmax => ?_, fun s payload hlive hlong => ?_, fun s t calls _ hexec hmade => ?_⟩
  · exact ackCommand_runsAs (c := .rasterblk) rfl rfl (by simpa [Cmd.paramsOk] using hmax) (rasterblk_packet hmax) rfl
  · exact exec_command_wrongSize (c := .rasterblk) rfl (by simpa [Cmd.paramsOk] using hlong) hlive
  · cases hexec
    obtain ⟨sent, hsent, hrange⟩ := rxferUpTo_sentInRange s (2 * s.n + 1)
    obtain rfl : calls = sent := List.append_cancel_left (hmade.symm.trans hsent)
    exact hrange

end Sys2Proof.Machine

/-! The transposer (42_transposer.md): the operations at a buffer address, what XPOSE leaves in each byte and dot of PM,
and the three loops of `Transpose` with its closed form (R107). -/

namespace Sys2Proof.Machine

open Sys2Proof

/-! ### One byte at an address: WRBM, RDBM, RDPM (R105, R106, R112) -/

/-- The three outcomes of an operation at a buffer address of which `live s` are live: the dead check comes first, then
the check of the address. -/
theorem addressed_outcomes {i : Instr} {s : State} {a : Nat} (live : State → Nat) (op : State → State)
    (hi : exec i s = .next (s.unlessDead fun s => if a < live s then op s else s.refuse .addr)) :
    (s.fatal = false → a < live s → exec i s = .next (op s)) ∧
    (s.fatal = false → live s ≤ a → exec i s = .next (s.finish (.refused .addr))) ∧
    (s.fatal = true → exec i s = .next (s.finish (.refused .dead))) := by
  refine ⟨fun hlive ha => ?_, fun hlive ha => ?_, fun hdead => ?_⟩
  · rw [hi, unlessDead_live hlive, if_pos ha]
  · rw [hi, unlessDead_live hlive, if_neg (Nat.not_lt.mpr ha), refuse_eq_finish]
  · rw [hi, unlessDead_dead hdead]

theorem bmByte_writeBm (s : State) (a x : Nat) (v : Byte) :
    (s.writeBm a v).bmByte x = if x = a then v else s.bmByte x := read_poke ..

/-- Settles O41: a live address is the case of `addressed_outcomes` that writes, and `bmByte_writeBm` gives each byte of
BM after the write. -/
theorem wrbmWritesOneByte : Obligations.WrbmWritesOneByte := by
  intro s a v
  obtain ⟨hwrites, hrefused, hdead⟩ := addressed_outcomes (i := .wrbm a v) (s := s) State.bmLive
    (fun s => (s.writeBm a v).ok .none) rfl
  refine ⟨fun hlive ha => ⟨_, hwrites hlive ha, ?_, fun x hx => ?_, rfl⟩, hrefused, hdead⟩
  · simp [bmByte_writeBm]
  · simp [bmByte_writeBm, hx]

/-- Settles O42, by `addressed_outcomes` with the live part of BM. -/
theorem rdbmReturnsByte : Obligations.RdbmReturnsByte := fun _ a =>
  addressed_outcomes State.bmLive (fun s => s.ok (.byte (s.bmByte a))) rfl

/-- Settles O52, by `addressed_outcomes` with the live part of PM; PVALID is not asked for. -/
theorem rdpmReturnsByte : Obligations.RdpmReturnsByte := fun _ a =>
  addressed_outcomes State.n (fun s => s.ok (.byte (s.pmByte a))) rfl

/-! ### XPOSE (R108) -/

theorem exec_xpose_live {s : State} (hlive : s.fatal = false) (hw : s.w ≠ 0) :
    exec .xpose s = .next ((s.writePm s.pattern).markXposed.finish (.ok .none)) := by
  simp [exec, execXpose, unlessDead_live hlive, hw]

theorem exec_xpose_notready {s : State} (hlive : s.fatal = false) (hw : s.w = 0) :
    exec .xpose s = .next (s.finish (.refused .notready)) := by
  simp [exec, execXpose, unlessDead_live hlive, hw]

theorem exec_xpose_dead {s : State} (hdead : s.fatal = true) :
    exec .xpose s = .next (s.finish (.refused .dead)) := by
  simp [exec, execXpose, unlessDead_dead hdead]

theorem statusXposed_of_live (hin : Nat) {f : BitVec 3} (h : f.getLsbD 2 = false) :
    statusXposed hin f = if 128 < hin then 3#3 else 1#3 := by
  have hbits : ∀ b : Bool, putFlag 0 true (putFlag 1 b f) = if b then 3#3 else 1#3 := by
    revert f; decide
  simp [statusXposed, hbits]

theorem pmByte_writePm (s : State) (bs : List Byte) (a : Nat) :
    (s.writePm bs).pmByte a = if a < bs.length then bs.getD a 0 else s.pmByte a := by
  simp [State.pmByte, read_pokeAll]

@[simp] theorem pattern_length (s : State) : s.pattern.length = 16 * s.w := by simp [State.pattern]

theorem pattern_getD {s : State} {a : Nat} (ha : a < 16 * s.w) : s.pattern.getD a 0 = s.patternByte a := by
  simp [State.pattern, ha]

/-- Every byte of PM after an XPOSE: the pattern in the live part, what was there past it. -/
theorem pmByte_of_xpose {s t : State} (hlive : s.fatal = false) (hw : s.w ≠ 0) (h : exec .xpose s = .next t)
    (a : Nat) : t.pmByte a = if a < 16 * s.w then s.patternByte a else s.pmByte a := by
  rw [exec_xpose_live hlive hw] at h
  cases h
  rw [finish_pmByte, markXposed_pmByte, pmByte_writePm, pattern_length]
  split
  next ha => exact pattern_getD ha
  next => rfl

theorem mbit_patternByte (s : State) (a : Nat) {k : Nat} (hk : k < 8) :
    mbit (s.patternByte a) k = s.dotOf (8 * (a % 16) + k) (a / 16) := mbit_byteOfBits _ k hk

/-- The dot of Pattern row `p` in column `x` after an XPOSE. -/
theorem dot_of_xpose {s t : State} (hlive : s.fatal = false) (hw : s.w ≠ 0) (h : exec .xpose s = .next t) {x p : Nat}
    (hx : x < s.w) (hp : p < 128) : mbit (t.pmByte (x * 16 + p / 8)) (p % 8) = s.dotOf p x := by
  have hlt : x * 16 + p / 8 < 16 * s.w := by omega
  have hrow : 8 * ((x * 16 + p / 8) % 16) + p % 8 = p := by omega
  have hcol : (x * 16 + p / 8) / 16 = x := by omega
  rw [pmByte_of_xpose hlive hw h, if_pos hlt, mbit_patternByte s _ (Nat.mod_lt p (by decide)), hrow, hcol]

/-- Settles O44: the dots by `dot_of_xpose`, the bytes past the live part by `pmByte_of_xpose`, the flags by
`statusXposed_of_live`. -/
theorem xposeBuildsPattern : Obligations.XposeBuildsPattern := by
  refine fun s => ⟨fun hlive hw => ?_, exec_xpose_notready, exec_xpose_dead⟩
  have hexec := exec_xpose_live hlive hw
  refine ⟨_, hexec, fun x hx p hp => ?_, fun a ha => ?_, ?_⟩
  · rw [dot_of_xpose hlive hw hexec hx hp, Bool.decide_and]
    rfl
  · rw [pmByte_of_xpose hlive hw hexec, if_neg (Nat.not_lt.mpr ha)]
  · rw [← statusXposed_of_live s.hin hlive]
    rfl

/-! ### Centring (R109) -/

theorem dotOf_image (s : State) {r : Nat} (x : Nat) (hr : r < s.h) : s.dotOf (s.padtop + r) x = s.pixel r x := by
  simp [State.dotOf, hr]

theorem dotOf_outside {s : State} {p : Nat} (x : Nat) (hp : p < s.padtop ∨ s.padtop + s.h ≤ p) :
    s.dotOf p x = false := by
  have hout : ¬ (s.padtop ≤ p ∧ p < s.padtop + s.h) := by omega
  rw [State.dotOf, ← Bool.decide_and, decide_eq_false hout, Bool.false_and]

/-- The image lies within the 128 Pattern rows. -/
theorem padtop_add_h_le {s : State} (hgeo : s.GeometryAgrees) : s.padtop + s.h ≤ 128 := by
  obtain ⟨hh, hpad, -, -⟩ := hgeo
  omega

/-- Settles O46: `(128 - H) / 2` is PADTOP, and `dot_of_xpose` gives the dots of the image and of the rows around it. -/
theorem imageIsCentred : Obligations.ImageIsCentred := by
  intro s t hlive hw hgeo hexec x hx
  have hfit := padtop_add_h_le hgeo
  obtain ⟨-, hpad, -, -⟩ := hgeo
  rw [← hpad]
  refine ⟨fun r hr => ?_, fun p hp hout => ?_⟩
  · rw [dot_of_xpose hlive hw hexec hx (by omega), dotOf_image s x hr]
  · rw [dot_of_xpose hlive hw hexec hx hp, dotOf_outside x hout]

/-! ### The three loops of `Transpose` (R107)

Every step of the loops only sets a dot, so the loops are followed dot by dot: the dots set at the end are those some
step sets, and that is the closed form. -/

/-- The dot of MSB-index `k` of byte `a` is set in these bytes. -/
def DotSet (bytes : List Byte) (a k : Nat) : Prop := mbit (bytes.getD a 0) k = true

/-- On `n` bytes, `f` keeps the length and adds exactly the dots `dots a k`. -/
def AddsDots (n : Nat) (dots : Nat → Nat → Prop) (f : List Byte → List Byte) : Prop :=
  ∀ bytes, bytes.length = n →
    (f bytes).length = n ∧ ∀ a, ∀ k < 8, DotSet (f bytes) a k ↔ DotSet bytes a k ∨ dots a k

/-- A loop adds the dots that its steps add. -/
theorem addsDots_foldl {n : Nat} {dots : Nat → Nat → Nat → Prop} {f : List Byte → Nat → List Byte}
    (is : List Nat) (h : ∀ i ∈ is, AddsDots n (dots i) (f · i)) :
    AddsDots n (fun a k => ∃ i ∈ is, dots i a k) (is.foldl f ·) := by
  induction is with
  | nil => exact fun bytes hlen => ⟨hlen, by simp⟩
  | cons i is ih =>
    intro bytes hlen
    obtain ⟨hlen1, hdots1⟩ := h i List.mem_cons_self bytes hlen
    obtain ⟨hlen2, hdots2⟩ := ih (fun j hj => h j (List.mem_cons_of_mem i hj)) (f bytes i) hlen1
    refine ⟨hlen2, fun a k hk => ?_⟩
    simp only [List.foldl_cons, hdots2 a k hk, hdots1 a k hk, List.exists_mem_cons_iff, or_assoc]

theorem not_dotSet_zeros (n a k : Nat) : ¬ DotSet (zeros n) a k := by
  rw [DotSet, zeros, List.getD_eq_getElem?_getD, List.getElem?_getD_replicate_default_eq]
  simp [mbit]

theorem dotSet_set_mset {bytes : List Byte} {b : Nat} (hb : b < bytes.length) (j a : Nat) {k : Nat} (hk : k < 8) :
    DotSet (bytes.set b (mset (bytes.getD b 0) j)) a k ↔ DotSet bytes a k ∨ (a = b ∧ k = j) := by
  by_cases hab : a = b
  · subst hab
    simp [DotSet, hb, mbit_mset _ _ _ hk, eq_comm (a := k)]
  · simp [DotSet, hab, List.getElem?_set_ne (Ne.symm hab)]

/-- The one dot that pixel `b` of byte-column `w` of row `r` sets, if it sets any. -/
def PixelDot (s : State) (r w b a k : Nat) : Prop :=
  (w * 8 + b < s.w ∧ mbit (s.bmByte (r * s.stride + w)) b = true) ∧
    a = (w * 8 + b) * 16 + (s.padtop + r) / 8 ∧ k = (s.padtop + r) % 8

theorem addsDots_transposePixel (s : State) {r : Nat} (w b : Nat) (hr : s.padtop + r < 128) :
    AddsDots (16 * s.w) (PixelDot s r w b) (transposePixel s r w b) := by
  intro bytes hlen
  simp only [transposePixel, PixelDot]
  split
  next hset => exact ⟨by simpa using hlen, fun a k hk => by rw [dotSet_set_mset (by omega) _ _ hk]; simp [hset]⟩
  next hset => exact ⟨hlen, fun a k _ => by simp [hset]⟩

/-- The loops set the dots of the pixels they visit, and no other. -/
theorem dotSet_transposeLoops {s : State} (hfit : s.padtop + s.h ≤ 128) :
    (transposeLoops s).length = 16 * s.w ∧ ∀ a, ∀ k < 8, DotSet (transposeLoops s) a k ↔
      ∃ r ∈ List.range s.h, ∃ w ∈ List.range s.stride, ∃ b ∈ List.range 8, PixelDot s r w b a k := by
  have hadds := addsDots_foldl (n := 16 * s.w) (List.range s.h) fun r hr =>
    addsDots_foldl (List.range s.stride) fun w _ =>
      addsDots_foldl (List.range 8) fun b _ =>
        addsDots_transposePixel s w b (show s.padtop + r < 128 by have := List.mem_range.mp hr; omega)
  obtain ⟨hlen, hdots⟩ := hadds (zeros (16 * s.w)) (zeros_length _)
  exact ⟨hlen, fun a k hk => (hdots a k hk).trans (or_iff_right (not_dotSet_zeros _ _ _))⟩

theorem dotOf_iff (s : State) (p x : Nat) :
    s.dotOf p x = true ↔ (s.padtop ≤ p ∧ p < s.padtop + s.h) ∧ s.pixel (p - s.padtop) x = true := by
  simp [State.dotOf]

/-- The pixel that sets a given dot is the one the closed form names. -/
theorem exists_pixelDot_iff {s : State} (hgeo : s.GeometryAgrees) {a k : Nat} (ha : a < 16 * s.w) (hk : k < 8) :
    (∃ r ∈ List.range s.h, ∃ w ∈ List.range s.stride, ∃ b ∈ List.range 8, PixelDot s r w b a k) ↔
      s.dotOf (8 * (a % 16) + k) (a / 16) = true := by
  have hfit := padtop_add_h_le hgeo
  obtain ⟨-, -, hstride, -⟩ := hgeo
  rw [dotOf_iff]
  constructor
  · rintro ⟨r, hr, w, -, b, hb, ⟨-, hpixel⟩, hbyte, hbit⟩
    rw [List.mem_range] at hr hb
    have hrow : 8 * (a % 16) + k = s.padtop + r := by omega
    have hcol : a / 16 = w * 8 + b := by omega
    have hw : (w * 8 + b) / 8 = w := by omega
    have hb8 : (w * 8 + b) % 8 = b := by omega
    rw [hrow, hcol, Nat.add_sub_cancel_left, State.pixel, hw, hb8]
    exact ⟨by omega, hpixel⟩
  · rintro ⟨⟨hlo, hhi⟩, hpixel⟩
    refine ⟨8 * (a % 16) + k - s.padtop, List.mem_range.mpr (by omega), a / 16 / 8, List.mem_range.mpr (by omega),
      a / 16 % 8, List.mem_range.mpr (by omega), ⟨by omega, hpixel⟩, by omega, by omega⟩

/-- The loops compute the closed form. -/
theorem transposeLoops_eq_pattern {s : State} (hgeo : s.GeometryAgrees) : transposeLoops s = s.pattern := by
  obtain ⟨hlen, hdots⟩ := dotSet_transposeLoops (padtop_add_h_le hgeo)
  refine List.ext_getElem (hlen.trans (pattern_length s).symm) fun a hloops hpattern => byte_ext fun k hk => ?_
  have ha : a < 16 * s.w := by omega
  rw [← List.getD_eq_getElem _ 0 hloops, ← List.getD_eq_getElem _ 0 hpattern, pattern_getD ha,
    mbit_patternByte s a hk]
  exact Bool.eq_iff_iff.mpr ((hdots a k hk).trans (exists_pixelDot_iff hgeo ha hk))

theorem pmBytes_of_xpose {s t : State} (hlive : s.fatal = false) (hw : s.w ≠ 0) (h : exec .xpose s = .next t) :
    t.pmBytes 0 (16 * s.w) = s.pattern := by
  refine List.map_congr_left fun a ha => ?_
  rw [Nat.zero_add, pmByte_of_xpose hlive hw h, if_pos (List.mem_range.mp ha)]

/-- Settles O45: XPOSE leaves the closed form (`pmBytes_of_xpose`), which the loops compute
(`transposeLoops_eq_pattern`). -/
theorem xposeIsTheThreeLoops : Obligations.XposeIsTheThreeLoops := by
  intro s t hlive hw hgeo hexec
  refine ⟨(pmBytes_of_xpose hlive hw hexec).trans (transposeLoops_eq_pattern hgeo).symm, fun a ha k hk => ?_⟩
  rw [pmByte_of_xpose hlive hw hexec, if_pos ha, mbit_patternByte s a hk, dotOf_iff]

end Sys2Proof.Machine

/-! The system operation RDCSR (44_system.md): the CSRs in the order of their numbers, and the register read. -/

namespace Sys2Proof.Machine

open Sys2Proof

/-- `STATUS` as a number is the weighted sum of its flags (R28). -/
theorem status_toNat (s : State) :
    s.status.toNat = s.pvalid.toNat + 2 * s.trunc.toNat + 4 * s.fatal.toNat := by
  have hbits : ∀ f : BitVec 3,
      f.toNat = (f.getLsbD 0).toNat + 2 * (f.getLsbD 1).toNat + 4 * (f.getLsbD 2).toNat := by decide
  exact hbits s.status

/-- The values of CSR 0 to CSR 10, in the order of R29. -/
def State.csrs (s : State) : List Nat :=
  [s.pvalid.toNat + 2 * s.trunc.toNat + 4 * s.fatal.toNat, s.w, s.hin, s.h, s.padtop, s.stride, s.n, s.pos,
    s.blklen, s.pagecnt, s.rxlen]

/-- A CSR number is a place in the list of the CSRs, and the reserved numbers are those past its end. -/
theorem csrValue_eq_getElem? (s : State) (n : Nat) : csrValue s n = s.csrs[n]? := by
  match n with
  | 0 => exact congrArg some (status_toNat s)
  | 1 | 2 | 3 | 4 | 5 | 6 | 7 | 8 | 9 | 10 => rfl
  | _ + 11 => rfl

/-- RDCSR of a number that names a register ends with its value, whatever the flags. -/
theorem exec_rdcsr_some {s : State} {n v : Nat} (h : csrValue s n = some v) :
    exec (.rdcsr n) s = .next (s.ok (.num v)) := by
  simp only [exec, execRdcsr, h]

/-- RDCSR of a reserved number is refused, whatever the flags. -/
theorem exec_rdcsr_none {s : State} {n : Nat} (h : csrValue s n = none) :
    exec (.rdcsr n) s = .next (s.refuse .addr) := by
  simp only [exec, execRdcsr, h]

/-- Settles O27: `csrValue_eq_getElem?` turns the number into a place in the list of the CSRs, which either names a
register or lies past the end. -/
theorem rdcsrReturnsRegister : Obligations.RdcsrReturnsRegister := by
  intro n s
  have hcsr := csrValue_eq_getElem? s n
  rw [State.csrs] at hcsr
  rw [← hcsr]
  cases h : csrValue s n with
  | some v => exact exec_rdcsr_some h
  | none => exact exec_rdcsr_none h

end Sys2Proof.Machine

/-! The refusals (60_exceptions.md R136 to R141, R143): each is read off the checks its operation begins with. -/

namespace Sys2Proof.Machine

open Sys2Proof

/-! ### DEAD (R141) and ILLEGAL (R140) -/

/-- Every operation but RDCSR begins with the dead check. -/
theorem exec_eq_unlessDead {i : Instr} (s : State) (hi : ∀ n, i ≠ .rdcsr n) :
    ∃ op, exec i s = .next (s.unlessDead op) := by
  cases i
  case rdcsr n => exact absurd rfl (hi n)
  all_goals exact ⟨_, rfl⟩

/-- Settles O10: the dead check comes before anything else an operation does. -/
theorem deadBlockRefuses : Obligations.DeadBlockRefuses := by
  intro i s hdead hi
  obtain ⟨op, hop⟩ := exec_eq_unlessDead s hi
  rw [hop, unlessDead_dead hdead]
  rfl

theorem unlessDead_refuse (s : State) (r : Reason) :
    (s.unlessDead fun s => s.refuse r) = s.finish (.refused (if s.fatal = true then .dead else r)) := by
  cases hf : s.fatal with
  | true => rw [unlessDead_dead hf, if_pos rfl]
  | false => rw [unlessDead_live hf, refuse_eq_finish, if_neg Bool.false_ne_true]

theorem opsel_mem (op : HostOp) :
    op.opsel ∈ ([0x01, 0x10, 0x11, 0x12, 0x20, 0x21, 0x22, 0x23, 0x24, 0x30] : List Byte) := by
  cases op <;> decide

/-- Whatever follows the code, a record whose code is outside the map is read no further. -/
theorem decode_illegalOpsel {op : Byte} (operands : List Byte)
    (hop : op ∉ ([0x01, 0x10, 0x11, 0x12, 0x20, 0x21, 0x22, 0x23, 0x24, 0x30] : List Byte)) :
    decode ⟨.hop, op :: operands⟩ = .error (.illegalOpsel op) := by
  have hnone : HostOp.ofOpsel op = none :=
    Option.eq_none_iff_forall_ne_some.mpr fun o ho => hop (ofOpsel_some ho ▸ opsel_mem o)
  simp only [decode, decodeHop, decodeHopHead, hnone]

/-- Settles O23: such a code decodes to `illegalOpsel`, such an index names no command, and the refusal of either stands
behind the dead check. -/
theorem illegalRefused : Obligations.IllegalRefused := by
  refine ⟨fun s op operands rest hop hidle hhost => ?_, fun s k params hk => ?_⟩
  · have hstep : step s = .next s.takeHost.illegalOpsel := by
      simp [step, hhost, hidle, decode_illegalOpsel operands hop, rejectInput]
    rw [hstep, State.illegalOpsel, unlessDead_refuse, State.finish, State.takeHost, hhost]
    rfl
  · have hnone : Cmd.ofIndex k = none := by
      rw [← Option.not_isSome_iff_eq_none, ofIndex_isSome_iff]
      omega
    rw [exec, execXchg, runCommand, hnone, unlessDead_refuse, State.finish]

/-! ### SIZE (R136) -/

theorem exec_send_wrongSize {s : State} {t : Nat} {payload : List Byte} (hlive : s.fatal = false)
    (hbad : sizeOk payload.length t = false) : exec (.send t payload) s = .next (s.finish (.refused .size)) := by
  simp [exec, execSend, unlessDead_live hlive, hbad]

/-- The number of parameter bytes of each command but RASTERBLK, by its index (R82, R136). -/
theorem paramsOk_of_count {k count : Nat} (h : [0, 0, 0, 0, 0, 0, 0, 0, 0, 2, 1, 1, 1, 0, 1, 0, 0][k]? = some count) :
    ∃ c, Cmd.ofIndex k = some c ∧ ∀ n, c.paramsOk n = (n == count) := by
  obtain ⟨hk, -⟩ := List.getElem?_eq_some_iff.mp h
  simp only [List.length_cons, List.length_nil] at hk
  interval_cases k <;> cases h <;> exact ⟨_, rfl, fun _ => rfl⟩

/-- Settles O24: a SEND outside the size contract, and a command whose parameter count its row of the table does not
take. -/
theorem sizeRefused : Obligations.SizeRefused := by
  refine ⟨fun s t payload hlive hbad => ?_, fun s k count params hlive hcount hne => ?_,
    fun s payload hlive hlong => ?_⟩
  · refine exec_send_wrongSize hlive (Bool.eq_false_iff.mpr fun hok => hbad ?_)
    simpa using (sizeOk_iff _ _).mp hok
  · obtain ⟨c, hc, hok⟩ := paramsOk_of_count hcount
    exact exec_command_wrongSize (c := c) (params := params) (by simp [Claims.commandOf, hc]) (by simp [hok, hne]) hlive
  · have hbad : Cmd.rasterblk.paramsOk payload.length = false := by simpa [Cmd.paramsOk] using hlong
    exact ⟨exec_command_wrongSize rfl hbad hlive, exec_command_wrongSize rfl hbad hlive⟩

/-! ### ADDR (R138) and NOTREADY (R139) -/

/-- Settles O25: the address clauses of the operations at a buffer address, and the end of the list of the CSRs. -/
theorem addressRefused : Obligations.AddressRefused := by
  intro s a v
  obtain ⟨-, hwrbm, -⟩ := wrbmWritesOneByte s a v
  obtain ⟨-, hrdbm, -⟩ := rdbmReturnsByte s a
  obtain ⟨-, hrdpm, -⟩ := rdpmReturnsByte s a
  refine ⟨fun hlive ha => ⟨hwrbm hlive ha, hrdbm hlive ha⟩, hrdpm, fun ha => ?_⟩
  have hnone : csrValue s a = none := by
    rw [csrValue_eq_getElem?, List.getElem?_eq_none_iff]
    exact ha
  exact exec_rdcsr_none hnone

theorem exec_rxfer_notready {s : State} (hlive : s.fatal = false) (hno : s.pvalid = false) :
    exec .rxfer s = .next (s.finish (.refused .notready)) := by
  simp [exec, execRxfer, State.rxferUpTo, unlessDead_live hlive, hno]

/-- Settles O26: `exec_xpose_notready` and `exec_rxfer_notready`. -/
theorem notReadyRefused : Obligations.NotReadyRefused := fun _ hlive =>
  ⟨exec_xpose_notready hlive, exec_rxfer_notready hlive⟩

end Sys2Proof.Machine

/-! What an operation can come to, said once (`Runs`): without a link call, or by the link calls of its meaning, which for
a transfer are over within the steps RXFER allows itself. -/

namespace Sys2Proof.Machine

open Sys2Proof

/-! ### Phases that go on with a value -/

theorem leads_andThen {α β : Type} {I : α → State → Prop} {J : β → State → Prop} {Q : State → Prop} {p : Phase α}
    {k : α → State → Phase β} (hp : p.Leads I Q) (hk : ∀ a s, I a s → (k a s).Leads J Q) : (p.andThen k).Leads J Q := by
  cases p with
  | done a s => exact hk a s hp
  | ended s => exact hp

theorem finally_of_leads {α : Type} {I : α → State → Prop} {Q : State → Prop} {p : Phase α} {k : α → State → State}
    (hp : p.Leads I Q) (hk : ∀ a s, I a s → Q (k a s)) : Q (p.finally k) := by
  cases p with
  | done a s => exact hk a s hp
  | ended s => exact hp

theorem leads_exchangeSteps {I : NextExchange → State → Prop} {Q : State → Prop}
    (hstep : ∀ x s, I x s → (exchangeStep x s).Leads I Q) (steps : Nat) {x : NextExchange} {s : State} (h : I x s) :
    (exchangeSteps steps x s).Leads I Q := by
  induction steps generalizing x s with
  | zero => exact h
  | succ steps ih => exact leads_andThen (hstep x s h) fun _ _ => ih

/-! ### A transfer is over within its steps (R119, R125) -/

/-- At most `k` exchanges are left, the next being `x`: two for each byte not yet acknowledged, and the ones that end a
page or the transfer. -/
def StepsLeft (k : Nat) (x : NextExchange) (s : State) : Prop :=
  match x with
  | .block => (s.pagecnt < Config.pageBytes ∧ s.pos < s.n) ∧ 2 * (s.n - s.pos) + 1 ≤ k
  | .rasterEnd => s.n ≤ s.pos ∧ 2 ≤ k
  | .printPage => 1 ≤ k ∧ (s.pos < s.n → 2 * (s.n - s.pos) + 2 ≤ k)

/-- The exchange of a transfer keeps the registers the transfer steers by. -/
theorem leads_exchangeCmd_registers (c : Cmd) (params : List Byte) (s : State) :
    (exchangeCmd c params s).Leads
      (fun _ t => t.n = s.n ∧ t.pos = s.pos ∧ t.blklen = s.blklen ∧ t.pagecnt = s.pagecnt) (fun _ => True) := by
  have hmeets := meets_exchangeCmd_afterSending c params s
  cases hx : exchangeCmd c params s <;> rw [hx] at hmeets
  case done => exact ⟨hmeets.n, hmeets.pos, hmeets.blklen, hmeets.pagecnt⟩
  case ended => trivial

theorem exchangeStep_stepsLeft {k : Nat} {x : NextExchange} {s : State} (h : StepsLeft (k + 1) x s) :
    (exchangeStep x s).Leads (StepsLeft k) (fun _ => True) := by
  cases x with
  | block =>
    obtain ⟨⟨hpage, hpos⟩, hk⟩ := h
    have hlen := nextBlockLen_pos hpage hpos
    obtain ⟨-, hfit, hleft⟩ := nextBlockLen_le s
    refine leads_andThen (leads_exchangeCmd_registers ..) fun _ t ⟨hn, htpos, htlen, htpage⟩ => ?_
    simp only [State.nextBlock, buildBlock_n, buildBlock_pos, buildBlock_blklen, buildBlock_pagecnt]
      at hn htpos htlen htpage
    simp only [Phase.Leads, State.afterBlock]
    split_ifs <;> simp only [StepsLeft, ackBlock_n, ackBlock_pos, ackBlock_pagecnt] at * <;> omega
  | rasterEnd =>
    obtain ⟨hpos, hk⟩ := h
    refine leads_andThen (leads_exchangeCmd_registers ..) fun _ t ⟨hn, htpos, _, _⟩ => ?_
    simp only [Phase.Leads, StepsLeft]
    omega
  | printPage =>
    obtain ⟨hk, hleft⟩ := h
    refine leads_andThen (leads_exchangeCmd_registers ..) fun _ t ⟨hn, htpos, _, _⟩ => ?_
    split
    · simp only [Phase.Leads, StepsLeft, endPage_pagecnt, endPage_pos, endPage_n, Config.pageBytes]
      omega
    · trivial

theorem exchangeSteps_ends {k : Nat} {x : NextExchange} {s : State} (h : StepsLeft k x s) :
    ∃ t, exchangeSteps k x s = .ended t := by
  induction k generalizing x s with
  | zero => cases x <;> simp [StepsLeft] at h
  | succ k ih =>
    have hstep := exchangeStep_stepsLeft h
    rw [exchangeSteps]
    cases hx : exchangeStep x s with
    | done y t => rw [hx] at hstep; exact ih hstep
    | ended t => exact ⟨t, rfl⟩

theorem transfer_ends {s : State} (hn : 0 < s.n) :
    ∃ t, exchangeSteps (2 * s.n + 1) .block s.startTransfer = .ended t :=
  exchangeSteps_ends ⟨⟨by simp, by simpa using hn⟩, by simp⟩

/-! ### What an operation can come to -/

/-- The result of an operation that met neither a mismatch nor a transport fault. -/
def Result.Plain : Result → Prop
  | .ok _ | .refused _ => True
  | .mismatch _ | .fatal => False

/-- Operation `i` ends at `t` without a link call: a refusal or a read, a write of the transposer, or a transfer of no
bytes. -/
inductive EndsLocally (s : State) : Instr → State → Prop
  | answer (i : Instr) {r : Result} (hr : r.Plain) : EndsLocally s i (s.finish r)
  | setgeom (w h : Nat) : EndsLocally s (.setgeom w h) ((s.setGeometry w h).finish (.ok .none))
  | wrbm (a : Nat) (v : Byte) : EndsLocally s (.wrbm a v) ((s.writeBm a v).finish (.ok .none))
  | xpose : EndsLocally s .xpose ((s.writePm s.pattern).markXposed.finish (.ok .none))
  | emptyTransfer : EndsLocally s .rxfer (s.startTransfer.finish (.ok .none))

/-- Operation `i` takes the block from `s` to `t`: without a link call, or by the link calls of its meaning. -/
inductive Runs (s : State) : Instr → State → Prop
  | noCall {i : Instr} {t : State} (h : EndsLocally s i t) : Runs s i t
  | send {t : Nat} {payload : List Byte} (hlive : s.fatal = false) (hsize : sizeOk payload.length t = true) :
      Runs s (.send t payload) ((transmit (pad payload t) s).finally fun _ s1 => s1.finish (.ok .none))
  | recv (hlive : s.fatal = false) : Runs s .recv ((receive s).finally fun b s1 => s1.finish (.ok (.bytes b)))
  | command {i : Instr} {c : Cmd} {params : List Byte} (hi : Claims.commandOf i = some (c, params))
      (hok : c.paramsOk params.length = true) (hlive : s.fatal = false) :
      Runs s i ((exchangeCmd c params s).finally fun d s1 => s1.finish (.ok d))
  | transfer {t : State} (hlive : s.fatal = false)
      (ht : exchangeSteps (2 * s.n + 1) .block s.startTransfer = .ended t) : Runs s .rxfer t

theorem runs_answer {s : State} {i : Instr} {r : Result} (hr : r.Plain) : Runs s i (s.finish r) :=
  .noCall (.answer i hr)

theorem runs_unlessDead {s : State} {i : Instr} {op : State → State} (h : s.fatal = false → Runs s i (op s)) :
    Runs s i (s.unlessDead op) := by
  cases hf : s.fatal with
  | true => rw [unlessDead_dead hf]; exact runs_answer trivial
  | false => rw [unlessDead_live hf]; exact h hf

/-- An operation with one more check behind the dead check. -/
theorem runs_checked {s : State} {i : Instr} {check : State → Prop} [DecidablePred check] {op : State → State}
    {r : Reason} (h : s.fatal = false → check s → Runs s i (op s)) :
    Runs s i (s.unlessDead fun s => if check s then op s else s.refuse r) :=
  runs_unlessDead fun hlive => by
    split
    next hok => exact h hlive hok
    next => exact runs_answer trivial

theorem runs_command {s t : State} {i : Instr} {c : Cmd} {params : List Byte}
    (hi : Claims.commandOf i = some (c, params)) (h : exec i s = .next t) : Runs s i t := by
  rw [exec_of_commandOf hi] at h
  cases h
  exact runs_checked (check := fun _ => c.paramsOk params.length = true) fun hlive hok => .command hi hok hlive

theorem runs_rxfer (s : State) : Runs s .rxfer (s.rxferUpTo (2 * s.n + 1)) :=
  rxferUpTo_rule _ (fun _ => runs_answer trivial) (fun _ _ => runs_answer trivial)
    (fun _ _ _ => .noCall .emptyTransfer)
    fun hlive _ hn => by
      obtain ⟨t, ht⟩ := transfer_ends hn
      rw [ht]
      exact .transfer hlive ht

/-- What any operation can come to. -/
theorem runs_of_exec {i : Instr} {s t : State} (h : exec i s = .next t) : Runs s i t := by
  cases i
  case rdcsr n =>
    cases h
    split <;> exact runs_answer trivial
  case send => cases h; exact runs_checked (check := fun _ => _) .send
  case recv => cases h; exact runs_unlessDead .recv
  case xchg k params =>
    cases hk : Cmd.ofIndex k with
    | some c => exact runs_command (c := c) (params := params) (by simp [Claims.commandOf, hk]) h
    | none =>
      cases h
      rw [runCommand, hk]
      exact runs_unlessDead fun _ => runs_answer trivial
  case setgeom w h' => cases h; exact runs_checked (check := fun _ => _) fun _ _ => .noCall (.setgeom w h')
  case wrbm a v => cases h; exact runs_checked fun _ _ => .noCall (.wrbm a v)
  case rdbm => cases h; exact runs_checked fun _ _ => runs_answer trivial
  case xpose =>
    cases h
    refine runs_unlessDead fun _ => ?_
    split
    · exact runs_answer trivial
    · exact .noCall .xpose
  case rdpm => cases h; exact runs_checked fun _ _ => runs_answer trivial
  case rxfer => cases h; exact runs_rxfer s
  all_goals exact runs_command rfl h

end Sys2Proof.Machine

/-! The transport fault, the mismatch and the truncation warning (60_exceptions.md R133 to R135). -/

namespace Sys2Proof.Machine

open Sys2Proof

/-! ### Rules that see the link's answers -/

/-- The response `b` is the link's last answer and stands in RXBUF[0..RXLEN). -/
def State.Received (s : State) (b : List Byte) : Prop :=
  s.trace.getLast? = some (.rx (.data b)) ∧ s.rxBytes = b ∧ s.rxlen = b.length

/-- What carries `P` (going on) and `Q` (ended) through the link's primitives, given what the link answered. `LinkRules`
does not say which answer ended the operation, and lets it end with any result. -/
structure AnswerRules (P Q : State → Prop) : Prop where
  tx : ∀ s p, P s → ¬ Claims.isFault (.tx p (s.txAnswer p)) → P (s.linkTx p)
  txFault : ∀ s p, P s → Claims.isFault (.tx p (s.txAnswer p)) → Q (s.linkTx p).transportFault
  rx : ∀ s, P s → ¬ Claims.isFault (.rx s.rxAnswer) → P s.linkRx
  rxFault : ∀ s, P s → Claims.isFault (.rx s.rxAnswer) → Q s.linkRx.transportFault
  store : ∀ s b, P s → P (s.storeResponse b)
  stall : ∀ s x, P s → Q (s.stall x)
  ok : ∀ s d, P s → Q (s.finish (.ok d))

/-- What else carries `P` and `Q` through an exchange and a transfer. -/
structure ExchangeRules (P Q : State → Prop) : Prop extends AnswerRules P Q where
  mismatch : ∀ s b, P s → s.Received b → Q (s.finish (.mismatch b))
  start : ∀ s, P s → P s.startTransfer
  build : ∀ s len, P s → P (s.nextBlock len)
  ack : ∀ s, P s → P s.ackBlock
  endPage : ∀ s, P s → P s.endPage

section

variable {P Q : State → Prop} {s : State}

theorem leads_transmit (R : AnswerRules P Q) (p : List Byte) (h : P s) : (transmit p s).Leads (fun _ => P) Q := by
  have hgood := R.tx s p h
  have hbad := R.txFault s p h
  unfold transmit
  cases ha : s.txAnswer p <;> simp only [ha, Claims.isFault] at hgood hbad ⊢
  case error => exact hbad trivial
  case silent => exact R.stall _ _ (hgood not_false)
  case done n =>
    split
    next hshort => exact hbad hshort
    next hfull => exact hgood hfull

theorem leads_receive (R : AnswerRules P Q) (h : P s) : (receive s).Leads (fun b t => P t ∧ t.Received b) Q := by
  have hgood := R.rx s h
  have hbad := R.rxFault s h
  unfold receive
  cases ha : s.rxAnswer <;> simp only [ha, Claims.isFault] at hgood hbad ⊢
  case error => exact hbad trivial
  case silent => exact R.stall _ _ (hgood not_false)
  case data b => exact ⟨R.store _ b (hgood not_false), by simp [State.Received, ha]⟩

/-- An exchange that expects no response is its send (R78, R88). -/
theorem leads_exchange_none (R : AnswerRules P Q) (payload : List Byte) (t : Nat) (h : P s) :
    (exchange payload t .none s).Leads (fun _ => P) Q :=
  leads_andThen (leads_transmit R _ h) fun _ _ h1 => h1

theorem leads_exchange (R : ExchangeRules P Q) (payload : List Byte) (t : Nat) (e : Expect) (h : P s) :
    (exchange payload t e s).Leads (fun _ => P) Q := by
  refine leads_andThen (leads_transmit R.toAnswerRules _ h) fun _ s1 h1 => ?_
  have hreply : ((receive s1).andThen (checkResponse e)).Leads (fun _ => P) Q := by
    refine leads_andThen (leads_receive R.toAnswerRules h1) fun b s2 ⟨h2, hb⟩ => ?_
    unfold checkResponse
    split
    · exact h2
    · exact R.mismatch s2 b h2 hb
  cases e with
  | none => exact h1
  | ack | exact q | len m => exact hreply

theorem leads_exchangeStep_of_rules (R : ExchangeRules P Q) (x : NextExchange) (h : P s) :
    (exchangeStep x s).Leads (fun _ => P) Q := by
  cases x with
  | block => exact leads_andThen (leads_exchange R _ _ _ (R.build _ _ h)) fun _ s1 h1 => R.ack s1 h1
  | rasterEnd => exact leads_andThen (leads_exchange R _ _ _ h) fun _ _ h1 => h1
  | printPage =>
    refine leads_andThen (leads_exchange R _ _ _ h) fun _ s1 h1 => ?_
    split
    · exact R.endPage s1 h1
    · exact R.ok _ _ (R.endPage s1 h1)

/-- Where a transfer that is over leaves the block. -/
theorem transfer_rule (R : ExchangeRules P Q) {t : State} {steps : Nat}
    (ht : exchangeSteps steps .block s.startTransfer = .ended t) (h : P s) : Q t := by
  have hleads := leads_exchangeSteps (fun x _ => leads_exchangeStep_of_rules R x) steps (x := .block) (R.start s h)
  rw [ht] at hleads
  exact hleads

/-- What holds where an operation has ended. -/
theorem runs_rule (R : ExchangeRules P Q) {t : State} {i : Instr} (h : Runs s i t)
    (hnoCall : EndsLocally s i t → Q t) (hP : s.fatal = false → P s) : Q t := by
  cases h with
  | noCall hends => exact hnoCall hends
  | send hlive => exact finally_of_leads (leads_transmit R.toAnswerRules _ (hP hlive)) fun _ u hu => R.ok u _ hu
  | recv hlive => exact finally_of_leads (leads_receive R.toAnswerRules (hP hlive)) fun b u hu => R.ok u _ hu.1
  | command _ _ hlive => exact finally_of_leads (leads_exchange R _ _ _ (hP hlive)) fun _ u hu => R.ok u _ hu
  | transfer hlive ht => exact transfer_rule R ht (hP hlive)

end

/-- What every operation that ends without a link call leaves, and its result. -/
theorem EndsLocally.frame {s t : State} {i : Instr} (h : EndsLocally s i t) :
    t.fatal = s.fatal ∧ t.trace = s.trace ∧ ∃ r : Result, r.Plain ∧ t.result = some r := by
  cases h with
  | answer _ hr => exact ⟨rfl, rfl, _, hr, rfl⟩
  | setgeom w h => exact ⟨setGeometry_fatal s w h, rfl, .ok .none, trivial, rfl⟩
  | wrbm a v => exact ⟨rfl, rfl, .ok .none, trivial, rfl⟩
  | xpose => exact ⟨markXposed_fatal (s.writePm s.pattern), rfl, .ok .none, trivial, rfl⟩
  | emptyTransfer => exact ⟨rfl, rfl, .ok .none, trivial, rfl⟩

/-! ### The transport fault (R133) -/

/-- No link call from `s` to `t` is a transport fault, and the block is live. -/
def Unfaulted (s t : State) : Prop :=
  t.fatal = false ∧ ∃ calls, Claims.Made s t calls ∧ ∀ e ∈ calls, ¬ Claims.isFault e

/-- The FATAL flag, the result `FATAL` and a faulting link call, which is the last one, go together. -/
def FaultTied (s t : State) : Prop :=
  (t.fatal = true ↔ t.result = some .fatal) ∧
    ∃ calls, Claims.Made s t calls ∧
      (t.result = some .fatal ↔ ∃ e ∈ calls, Claims.isFault e) ∧
      ∀ j e, calls[j]? = some e → Claims.isFault e → j + 1 = calls.length

theorem unfaulted_of_unchanged {s t : State} (hlive : s.fatal = false) (hf : t.fatal = s.fatal)
    (htrace : t.trace = s.trace) : Unfaulted s t :=
  ⟨hf.trans hlive, [], by simp [Claims.Made, htrace], by simp⟩

theorem unfaulted_call {s t u : State} {e : LinkEvent} (h : Unfaulted s t) (he : ¬ Claims.isFault e)
    (hf : u.fatal = t.fatal) (htrace : u.trace = t.trace ++ [e]) : Unfaulted s u := by
  obtain ⟨hlive, calls, hmade, hnone⟩ := h
  refine ⟨hf.trans hlive, calls ++ [e], by rw [Claims.Made, htrace, hmade, List.append_assoc], fun e' he' => ?_⟩
  obtain hold | rfl := List.mem_append.mp he' |>.imp_right List.mem_singleton.mp
  · exact hnone e' hold
  · exact he

theorem faultTied_of_unfaulted {s t : State} (h : Unfaulted s t) (hres : t.result ≠ some .fatal) : FaultTied s t := by
  obtain ⟨hlive, calls, hmade, hnone⟩ := h
  refine ⟨iff_of_false (by simp [hlive]) hres, calls, hmade, iff_of_false hres ?_, fun j e hj he => ?_⟩
  · exact fun ⟨e, hmem, he⟩ => hnone e hmem he
  · exact absurd he (hnone e (List.mem_of_getElem? hj))

theorem faultTied_of_fault {s t u : State} {e : LinkEvent} (h : Unfaulted s t) (he : Claims.isFault e)
    (htrace : u.trace = t.trace ++ [e]) : FaultTied s u.transportFault := by
  obtain ⟨-, calls, hmade, hnone⟩ := h
  refine ⟨iff_of_true (transportFault_fatal u) rfl, calls ++ [e], ?_, iff_of_true rfl ⟨e, by simp, he⟩, ?_⟩
  · rw [Claims.Made, transportFault_trace, htrace, hmade, List.append_assoc]
  · intro j e' hj he'
    obtain ⟨hlt, -⟩ := List.getElem?_eq_some_iff.mp hj
    have hge : ¬ j < calls.length := fun hin => by
      rw [List.getElem?_append_left hin] at hj
      exact hnone e' (List.mem_of_getElem? hj) he'
    simp only [List.length_append, List.length_singleton] at hlt ⊢
    omega

theorem faultTied_rules (s : State) : ExchangeRules (Unfaulted s) (FaultTied s) where
  tx := fun _ _ h hgood => unfaulted_call h hgood rfl rfl
  txFault := fun _ _ h hbad => faultTied_of_fault h hbad rfl
  rx := fun _ h hgood => unfaulted_call h hgood rfl rfl
  rxFault := fun _ h hbad => faultTied_of_fault h hbad rfl
  store := fun _ _ h => h
  stall := fun t x h => faultTied_of_unfaulted (t := t.stall x) h nofun
  mismatch := fun t b h _ => faultTied_of_unfaulted (t := t.finish (.mismatch b)) h nofun
  ok := fun t d h => faultTied_of_unfaulted (t := t.finish (.ok d)) h nofun
  start := fun _ h => h
  build := fun _ _ h => h
  ack := fun _ h => h
  endPage := fun _ h => h

theorem faultTied_of_endsLocally {s t : State} {i : Instr} (hlive : s.fatal = false) (h : EndsLocally s i t) :
    FaultTied s t := by
  obtain ⟨hf, htrace, r, hr, hres⟩ := h.frame
  refine faultTied_of_unfaulted (unfaulted_of_unchanged hlive hf htrace) (hres ▸ ?_)
  rintro ⟨⟩
  exact hr

/-- Settles O12: until a call faults the block is `Unfaulted`, and the fault ends the operation at once
(`faultTied_rules`). -/
theorem fatalFlagIsFatalResult : Obligations.FatalFlagIsFatalResult := fun _ s _ hlive hexec =>
  runs_rule (faultTied_rules s) (runs_of_exec hexec) (faultTied_of_endsLocally hlive)
    fun _ => unfaulted_of_unchanged hlive rfl rfl

/-! ### The mismatch (R134) -/

/-- What no link call and no exchange of a transfer touches, unless the operation ends with a fault or hangs. -/
structure Undisturbed (s t : State) : Prop where
  status : t.status = s.status
  waiting : t.waiting = s.waiting
  bm : t.bm = s.bm
  pm : t.pm = s.pm
  w : t.w = s.w
  hin : t.hin = s.hin
  h : t.h = s.h
  padtop : t.padtop = s.padtop
  stride : t.stride = s.stride
  n : t.n = s.n
  host : t.host = s.host
  epoch : t.epoch = s.epoch
  imageEpoch : t.imageEpoch = s.imageEpoch

/-- If the operation ended with `MISMATCH(b)`, then `b` is what the block, which was live, received, and all else
stands. -/
def MismatchReported (s t : State) : Prop :=
  ∀ b, t.result = some (.mismatch b) → s.fatal = false ∧ t.Received b ∧ Undisturbed s t

theorem mismatchReported_rules (s : State) :
    ExchangeRules (fun t => s.fatal = false ∧ Undisturbed s t) (MismatchReported s) where
  tx := fun _ _ ⟨hlive, h⟩ _ => ⟨hlive, { h with }⟩
  txFault := fun _ _ _ _ => nofun
  rx := fun _ ⟨hlive, h⟩ _ => ⟨hlive, { h with }⟩
  rxFault := fun _ _ _ => nofun
  store := fun _ _ ⟨hlive, h⟩ => ⟨hlive, { h with }⟩
  stall := fun _ _ _ => nofun
  ok := fun _ _ _ => nofun
  mismatch := fun _ b ⟨hlive, h⟩ hb c hc => by
    cases hc
    exact ⟨hlive, hb, { h with }⟩
  start := fun _ ⟨hlive, h⟩ => ⟨hlive, { h with }⟩
  build := fun _ _ ⟨hlive, h⟩ => ⟨hlive, { h with }⟩
  ack := fun _ ⟨hlive, h⟩ => ⟨hlive, { h with }⟩
  endPage := fun _ ⟨hlive, h⟩ => ⟨hlive, { h with }⟩

/-- The operation ended otherwise than with a mismatch, or hangs. -/
def NotMismatch (t : State) : Prop := ∀ b, t.result ≠ some (.mismatch b)

theorem notMismatch_rules : AnswerRules (fun _ => True) NotMismatch where
  tx := fun _ _ _ _ => trivial
  txFault := fun _ _ _ _ => nofun
  rx := fun _ _ _ => trivial
  rxFault := fun _ _ _ => nofun
  store := fun _ _ _ => trivial
  stall := fun _ _ _ => nofun
  ok := fun _ _ _ => nofun

theorem notMismatch_of_endsLocally {s t : State} {i : Instr} (h : EndsLocally s i t) : NotMismatch t := by
  obtain ⟨-, -, r, hr, hres⟩ := h.frame
  rintro b hb
  cases hres.symm.trans hb
  exact hr

theorem mismatchReported_of_runs {s t : State} {i : Instr} (h : Runs s i t) : MismatchReported s t :=
  runs_rule (mismatchReported_rules s) h (fun hends b hb => absurd hb (notMismatch_of_endsLocally hends b))
    fun hlive => ⟨hlive, rfl, rfl, rfl, rfl, rfl, rfl, rfl, rfl, rfl, rfl, rfl, rfl, rfl⟩

/-- Only a command that receives, or a transfer, ends with a mismatch. -/
theorem mismatch_source {s t : State} {i : Instr} {b : List Byte} (h : Runs s i t)
    (hb : t.result = some (.mismatch b)) :
    i = .rxfer ∨ ∃ c params, Claims.commandOf i = some (c, params) ∧ c ≠ .cancel ∧
      c.paramsOk params.length = true ∧ t = (exchangeCmd c params s).finally fun d s1 => s1.finish (.ok d) := by
  have R := notMismatch_rules
  cases h with
  | noCall hends => exact absurd hb (notMismatch_of_endsLocally hends b)
  | send => exact absurd hb (finally_of_leads (leads_transmit R _ trivial) (fun _ u _ => R.ok u _ trivial) b)
  | recv => exact absurd hb (finally_of_leads (leads_receive R trivial) (fun _ u _ => R.ok u _ trivial) b)
  | transfer => exact .inl rfl
  | @command _ c params hi hok =>
    refine .inr ⟨c, params, hi, fun hc => ?_, hok, rfl⟩
    subst hc
    exact finally_of_leads (leads_exchange_none R _ _ trivial) (fun _ u _ => R.ok u _ trivial) b hb

theorem receiving_instr {i : Instr} {c : Cmd} {params : List Byte} (hi : Claims.commandOf i = some (c, params))
    (hc : c ≠ .cancel) :
    (encode i).level = .frame ∧ i ≠ .xchgCancel ∨ ∃ k operands, i = .xchg k operands ∧ k ≠ 5 := by
  cases i
  case xchg k operands =>
    refine .inr ⟨k, operands, rfl, fun hk => hc ?_⟩
    subst hk
    cases hi
    rfl
  case xchgCancel =>
    cases hi
    exact absurd rfl hc
  all_goals cases hi <;> exact .inl ⟨rfl, nofun⟩

/-- The chunker's registers and its buffer, which a command leaves. -/
def ChunkerKept (s t : State) : Prop :=
  t.pos = s.pos ∧ t.blklen = s.blklen ∧ t.pagecnt = s.pagecnt ∧ t.blkbuf = s.blkbuf

theorem chunkerKept_rules (s : State) : LinkRules (ChunkerKept s) (ChunkerKept s) where
  tx := fun _ _ _ h => h
  rx := fun _ h => h
  store := fun _ _ _ h => h
  fault := fun _ h => h
  stall := fun _ _ h => h
  finish := fun _ _ h => h

/-- Settles O13: `mismatch_source` says which operations, `mismatchReported_of_runs` what stands after it. -/
theorem mismatchIsRecoverable : Obligations.MismatchIsRecoverable := by
  intro i s t b hidle hexec hb
  have hruns := runs_of_exec hexec
  obtain ⟨hlive, ⟨hlast, hbytes, hlen⟩, h⟩ := mismatchReported_of_runs hruns b hb
  have hfatal : t.fatal = false := (congrArg (·.getLsbD 2) h.status).trans hlive
  have hsource := mismatch_source hruns hb
  refine ⟨hsource.imp_right fun ⟨c, params, hi, hc, _⟩ => receiving_instr hi hc, hlast, hbytes, hlen, h.status, hfatal,
    h.waiting.trans hidle, h.bm, h.pm, h.w, h.hin, h.h, h.padtop, h.stride, h.n, fun hi => ?_, h.host, h.epoch,
    h.imageEpoch⟩
  obtain ⟨c, params, -, -, hok, rfl⟩ := hsource.resolve_left hi
  exact finally_of_meets (meets_exchangeCmd (chunkerKept_rules s) hok ⟨rfl, rfl, rfl, rfl⟩) fun _ _ hkept => hkept

/-! ### The truncation warning (R135) -/

theorem trunc_xposed (s : State) : (s.writePm s.pattern).markXposed.trunc = decide (128 < s.hin) :=
  markXposed_trunc (s.writePm s.pattern)

theorem truncKept_rules (s : State) : ExchangeRules (fun t => t.trunc = s.trunc) (fun t => t.trunc = s.trunc) where
  tx := fun _ _ h _ => h
  txFault := fun t p h _ => (transportFault_trunc (t.linkTx p)).trans h
  rx := fun _ h _ => h
  rxFault := fun t h _ => (transportFault_trunc t.linkRx).trans h
  store := fun _ _ h => h
  stall := fun _ _ h => h
  ok := fun _ _ h => h
  mismatch := fun _ _ h _ => h
  start := fun _ h => h
  build := fun _ _ h => h
  ack := fun _ h => h
  endPage := fun _ h => h

/-- Only XPOSE of a Bitmap of at most 128 rows and an accepted SETGEOM clear TRUNC; no operation that calls the link
does. -/
theorem trunc_cleared_by {s t : State} {i : Instr} (h : Runs s i t) (hset : s.trunc = true) (hclear : t.trunc = false) :
    ((i = .xpose ∧ s.hin ≤ 128) ∨ ∃ w h, i = .setgeom w h) ∧ t.result = some (.ok .none) := by
  have hchanged : t.trunc ≠ s.trunc := by simp [hset, hclear]
  by_cases hends : EndsLocally s i t
  · cases hends with
    | answer | wrbm | emptyTransfer => exact absurd rfl hchanged
    | setgeom w h' => exact ⟨.inr ⟨w, h', rfl⟩, rfl⟩
    | xpose =>
      have hlow : ¬ 128 < s.hin := of_decide_eq_false ((trunc_xposed s).symm.trans hclear)
      exact ⟨.inl ⟨rfl, Nat.le_of_not_lt hlow⟩, rfl⟩
  · exact absurd (runs_rule (truncKept_rules s) h (absurd · hends) fun _ => rfl) hchanged

theorem rejectInput_trunc {e : DecodeError} {s t : State} (h : rejectInput e s = .next t) : t.trunc = s.trunc := by
  cases e <;> cases h
  rw [State.illegalOpsel, unlessDead_refuse, finish_trunc]

/-- Settles O18: XPOSE by `exec_xpose_live`; a step that clears TRUNC is a reset or runs an operation that does
(`trunc_cleared_by`). -/
theorem truncationWarning : Obligations.TruncationWarning := by
  refine ⟨fun s hlive hw htall => ?_, fun s t hstep hset hclear => ?_⟩
  · exact ⟨_, exec_xpose_live hlive hw, (trunc_xposed s).trans (decide_eq_true htall), rfl⟩
  have hchanged : t.trunc ≠ s.trunc := by simp [hset, hclear]
  unfold step at hstep
  split at hstep
  next => cases hstep; exact absurd rfl hchanged
  next rest hhost => exact ⟨_, rest, hhost, .inl rfl⟩
  next r rest hhost =>
    refine ⟨_, rest, hhost, .inr (.inr ⟨r, rfl, ?_⟩)⟩
    split at hstep
    next => cases hstep; exact absurd rfl hchanged
    next =>
      split at hstep
      next i hi =>
        obtain ⟨hcause, hres⟩ := trunc_cleared_by (runs_of_exec hstep) hset hclear
        exact ⟨by simpa [hi] using hcause, hres⟩
      next => exact absurd (rejectInput_trunc hstep) hchanged
  next r j rest hhost => exact ⟨_, rest, hhost, .inr (.inl ⟨r, j, rfl⟩)⟩

end Sys2Proof.Machine

/-! The encodings (30_encoding.md): a host-operation record and a wire frame are read back as the instruction they carry,
and a frame that is read is the frame of its instruction. -/

namespace Sys2Proof

/-- A record whose operands are read to its end decodes to the operation read. -/
theorem decode_hopRequest {op : HostOp} {operands : List Byte} {i : Instr}
    (h : takeOperands op operands = some (i, [])) : decode (hopRequest op operands) = .ok i := by
  simp only [hopRequest, decode, decodeHop, decodeHopHead, ofOpsel_opsel, h]

theorem takeNat_putNat_end (n : Nat) : takeNat (putNat n) = some (n, []) := by
  simpa using takeNat_putNat n []

theorem takeString_putString_end {b : List Byte} (h : b.length ≤ operandMax) :
    takeString (putString b) = some (b, []) := by
  simpa using takeString_putString b [] h

/-- The frame of a command with as many parameters as its template takes decodes to the command. -/
theorem decode_frameRequest {c : Cmd} {params : List Byte} {i : Instr} (hok : c.paramsOk params.length = true)
    (hi : c.toInstr params = some i) : decode (frameRequest c params) = .ok i := by
  simp only [frameRequest, decode, decodeFrame, ofPacket_packet (Machine.packet_length hok), paramsOf_packet hok, hi,
    if_pos]

/-- Settles O1: a record by its operands, each read back from its carriage; a frame by its command and parameters. -/
theorem decodeOfEncode : Obligations.DecodeOfEncode := by
  intro i hwf
  cases i
  case rdcsr n =>
    have hn := toNat_byteOperand (of_decide_eq_true hwf)
    exact decode_hopRequest (by simp only [takeOperands, takeByte, Option.map_some, hn])
  case send t payload =>
    have ⟨ht, hp⟩ : t ≤ operandMax ∧ payload.length ≤ operandMax := by
      simpa [WellFormed, Instr.wellFormed] using hwf
    exact decode_hopRequest (by simp only [takeOperands, takeByte, Option.bind_some, takeString_putString_end hp,
      Option.map_some, toNat_byteOperand ht])
  case xchg k params =>
    have ⟨hk, hp⟩ : k ≤ operandMax ∧ params.length ≤ operandMax := by
      simpa [WellFormed, Instr.wellFormed] using hwf
    exact decode_hopRequest (by simp only [takeOperands, takeByte, Option.bind_some, takeString_putString_end hp,
      Option.map_some, toNat_byteOperand hk])
  case setgeom w h =>
    exact decode_hopRequest (by simp only [takeOperands, takeNat_putNat, takeNat_putNat_end, Option.bind_some,
      Option.map_some])
  case wrbm a v =>
    exact decode_hopRequest (by simp only [takeOperands, takeNat_putNat, takeByte, Option.bind_some, Option.map_some])
  case rdbm a | rdpm a =>
    exact decode_hopRequest (by simp only [takeOperands, takeNat_putNat_end, Option.map_some])
  case recv | xpose | rxfer => exact decode_hopRequest rfl
  case xchgRasterblk payload =>
    have hp : payload.length ≤ 60 := of_decide_eq_true hwf
    exact decode_frameRequest (decide_eq_true hp) (if_pos hp)
  all_goals exact decode_frameRequest rfl rfl

/-- An instruction that is a command encodes as the command's frame, and is well formed. -/
theorem encode_of_toInstr {c : Cmd} {params : List Byte} {i : Instr} (h : c.toInstr params = some i) :
    WellFormed i ∧ encode i = frameRequest c params := by
  cases c
  case rasterblk =>
    obtain ⟨hp, ⟨⟩⟩ := Option.ite_none_right_eq_some.mp h
    exact ⟨decide_eq_true hp, rfl⟩
  case tapechk =>
    match params, h with
    | [_, _], rfl => exact ⟨rfl, rfl⟩
  case margin | density | cutter | prefeed =>
    match params, h with
    | [_], rfl => exact ⟨rfl, rfl⟩
  all_goals
    match params, h with
    | [], rfl => exact ⟨rfl, rfl⟩

/-- Settles O2: the decoder compares the whole frame with the packet of the instruction it gives. -/
theorem acceptedFrameIsTheFrame : Obligations.AcceptedFrameIsTheFrame := by
  intro p i h
  simp only [decode, decodeFrame] at h
  split at h
  next => cases h
  next c _ =>
    split at h
    next => cases h
    next j hj =>
      split_ifs at h with hp
      cases h
      obtain ⟨hwf, henc⟩ := encode_of_toInstr hj
      exact ⟨hwf, henc.trans (congrArg (Request.mk .frame) hp.symm)⟩

/-- Settles O3: every word is a closed term, or one whose operand bytes the decoder only copies. -/
theorem writtenOutWordsDecode : Obligations.WrittenOutWordsDecode :=
  ⟨rfl, rfl, rfl, rfl, rfl, fun hi lo => decodeOfEncode (.xchgTapechk hi lo) rfl,
    fun d => decodeOfEncode (.xchgDensity d) rfl⟩

end Sys2Proof

/-! One step and reset (00_scope.md R10, 70_reset_and_hazards.md R155, R156): what a step can come to, said once
(`Steps`), and what each case leaves. -/

namespace Sys2Proof.Machine

open Sys2Proof

/-! ### What a step can come to -/

/-- A step takes the block from `s` to `t`. -/
inductive Steps (s : State) : State → Prop
  | idle (hhost : s.host = []) : Steps s s
  | hangs (hwait : s.waiting.isSome = true) : Steps s s
  | reset {rest : List HostInput} (hhost : s.host = .reset :: rest) : Steps s s.takeHost.applyReset
  | operation {r : Request} {rest : List HostInput} {i : Instr} {t : State} (hhost : s.host = .op r :: rest)
      (hidle : s.waiting = none) (hi : decode r = .ok i) (hexec : exec i s.takeHost = .next t) : Steps s t
  | illegal {r : Request} {rest : List HostInput} {b : Byte} (hhost : s.host = .op r :: rest)
      (hidle : s.waiting = none) (hb : decode r = .error (.illegalOpsel b)) : Steps s s.takeHost.illegalOpsel
  | interrupted {r : Request} {j : Nat} {rest : List HostInput} {i : Instr} {t : State}
      (hhost : s.host = .opReset r j :: rest) (hidle : s.waiting = none) (hi : decode r = .ok i)
      (hexec : execUpTo i j s.takeHost = .next t) : Steps s t.applyReset
  | interruptedIllegal {r : Request} {j : Nat} {rest : List HostInput} {b : Byte}
      (hhost : s.host = .opReset r j :: rest) (hidle : s.waiting = none)
      (hb : decode r = .error (.illegalOpsel b)) : Steps s s.takeHost.illegalOpsel.applyReset

theorem rejectInput_next {e : DecodeError} {s t : State} (h : rejectInput e s = .next t) :
    (∃ b, e = .illegalOpsel b) ∧ t = s.illegalOpsel := by
  cases e <;> cases h
  exact ⟨⟨_, rfl⟩, rfl⟩

theorem thenReset_next {o : Host.Outcome State Fault Refusal} {t : State} (h : thenReset o = .next t) :
    ∃ u, o = .next u ∧ t = u.applyReset := by
  cases o <;> cases h
  exact ⟨_, rfl, rfl⟩

/-- What any step can come to. -/
theorem steps_of_step {s t : State} (h : step s = .next t) : Steps s t := by
  unfold step at h
  split at h
  next hhost => cases h; exact .idle hhost
  next hhost => cases h; exact .reset hhost
  next r _ hhost =>
    split at h
    next hwait => cases h; exact .hangs hwait
    next hidle =>
      have hidle := Option.not_isSome_iff_eq_none.mp hidle
      split at h
      next i hi => exact .operation hhost hidle hi h
      next e he =>
        obtain ⟨⟨b, rfl⟩, rfl⟩ := rejectInput_next h
        exact .illegal hhost hidle he
  next r j _ hhost =>
    split at h
    next hwait => cases h; exact .hangs hwait
    next hidle =>
      have hidle := Option.not_isSome_iff_eq_none.mp hidle
      obtain ⟨u, hu, rfl⟩ := thenReset_next h
      split at hu
      next i hi => exact .interrupted hhost hidle hi hu
      next e he =>
        obtain ⟨⟨b, rfl⟩, rfl⟩ := rejectInput_next hu
        exact .interruptedIllegal hhost hidle he

/-- Settles O4: the step's own case for an operation that decodes. -/
theorem stepRunsDecodedOperation : Obligations.StepRunsDecodedOperation := by
  intro s r rest i hidle hhost hi
  have htake : s.takeHost = { s with host := rest } := by rw [State.takeHost, hhost, List.tail_cons]
  simp [step, hhost, hidle, hi, htake]

/-! ### Reset (R37, R155, R156) -/

/-- After reset every CSR is 0. -/
theorem csrValue_reset {n : Nat} (hn : n ≤ 10) : csrValue State.reset n = some 0 := by
  interval_cases n <;> rfl

/-- Settles O5: the CSRs by `csrValue_reset`; an empty buffer lists no address, so each byte is the free value. -/
theorem resetState : Obligations.ResetState :=
  ⟨fun _ hn => exec_rdcsr_some (csrValue_reset hn), fun _ => ⟨rfl, rfl, rfl, rfl⟩, rfl, rfl⟩

/-- Nothing a host operation does ends the fatal state. -/
theorem fatal_of_exec {i : Instr} {s t : State} (hdead : s.fatal = true) (h : exec i s = .next t) : t.fatal = true := by
  by_cases hi : ∃ n, i = .rdcsr n
  · obtain ⟨n, rfl⟩ := hi
    cases h
    split <;> exact hdead
  · rw [deadBlockRefuses i s hdead (not_exists.mp hi)] at h
    cases h
    exact hdead

/-- While an operation hangs only the reset input does anything (R145). -/
theorem step_of_hang {s : State} (hhost : ∀ rest, s.host ≠ .reset :: rest) (hwait : s.waiting.isSome = true) :
    step s = .next s := by
  unfold step
  split
  next => rfl
  next rest hreset => exact absurd hreset (hhost rest)
  next => rw [if_pos hwait]
  next => rw [if_pos hwait]

/-- Settles O6: the reset case of the step; a dead block's step by the cases of `Steps`; a hang by `step_of_hang`. -/
theorem resetInput : Obligations.ResetInput := by
  refine ⟨fun s rest hhost => ⟨_, ?_, rfl⟩, fun s t hstep hreset hmid hdead => ?_, fun s => step_of_hang⟩
  · simp only [step, hhost, State.applyReset, State.takeHost, List.tail_cons]
  · cases steps_of_step hstep with
    | idle | hangs => exact hdead
    | reset hhost => exact absurd hhost (hreset _)
    | operation _ _ _ hexec => exact fatal_of_exec (s := s.takeHost) hdead hexec
    | illegal => rw [State.illegalOpsel, unlessDead_refuse]; exact hdead
    | interrupted hhost | interruptedIllegal hhost => exact absurd hhost (hmid _ _ _)

end Sys2Proof.Machine

/-! Rules over all operations (44_system.md R131, 10_state.md, 20_memory.md R46 to R56): what each answer of the link does,
what the calls of an operation keep and touch, and what the calls are. -/

namespace Sys2Proof.Machine

open Sys2Proof

/-! ### Each answer of the link -/

/-- What a send comes to, by the link's answer (R74). -/
theorem transmit_cases (p : List Byte) (s : State) :
    (s.txAnswer p = .done p.length ∧ transmit p s = .done () (s.linkTx p)) ∨
      (Claims.isFault (.tx p (s.txAnswer p)) ∧ transmit p s = .ended (s.linkTx p).transportFault) ∨
      (s.txAnswer p = .silent ∧ transmit p s = .ended ((s.linkTx p).stall (.tx p))) := by
  have hbound : ∀ n, s.txAnswer p = .done n → n ≤ p.length := by
    intro n hn
    cases hhead : s.txAnswers.headD .silent <;> rw [State.txAnswer, hhead] at hn <;> cases hn
    exact Nat.min_le_right _ _
  unfold transmit
  cases ha : s.txAnswer p with
  | error => exact .inr (.inl ⟨trivial, rfl⟩)
  | silent => exact .inr (.inr ⟨rfl, rfl⟩)
  | done n =>
    by_cases hn : n < p.length
    · exact .inr (.inl ⟨hn, if_pos hn⟩)
    · exact .inl ⟨congrArg _ (Nat.le_antisymm (hbound n ha) (Nat.le_of_not_lt hn)), if_neg hn⟩

/-- What a receive comes to, by the link's answer (R76). -/
theorem receive_cases (s : State) :
    (∃ b, s.rxAnswer = .data b ∧ b.length ≤ 64 ∧ receive s = .done b (s.linkRx.storeResponse b)) ∨
      (s.rxAnswer = .error ∧ receive s = .ended s.linkRx.transportFault) ∨
      (s.rxAnswer = .silent ∧ receive s = .ended (s.linkRx.stall .rx)) := by
  unfold receive
  cases ha : s.rxAnswer with
  | data b => exact .inl ⟨b, rfl, rxAnswer_data_length ha, rfl⟩
  | error => exact .inr (.inl ⟨rfl, rfl⟩)
  | silent => exact .inr (.inr ⟨rfl, rfl⟩)

/-- What carries a property through the link calls of an operation, given each answer: `P` holds between two exchanges,
`M` between a send and its receive, `Q` where the operation has ended. -/
structure CallRules (P M Q : State → Prop) : Prop where
  sent : ∀ s p, P s → p.length ∈ [1, 16, 64] → s.txAnswer p = .done p.length → M (s.linkTx p)
  sendFault : ∀ s p, P s → p.length ∈ [1, 16, 64] → Claims.isFault (.tx p (s.txAnswer p)) →
    Q (s.linkTx p).transportFault
  sendHang : ∀ s p, P s → p.length ∈ [1, 16, 64] → s.txAnswer p = .silent → Q ((s.linkTx p).stall (.tx p))
  received : ∀ s b, M s → s.rxAnswer = .data b → b.length ≤ 64 → P (s.linkRx.storeResponse b)
  receiveFault : ∀ s, M s → s.rxAnswer = .error → Q s.linkRx.transportFault
  receiveHang : ∀ s, M s → s.rxAnswer = .silent → Q (s.linkRx.stall .rx)
  mismatch : ∀ s b, P s → Q (s.finish (.mismatch b))
  ok : ∀ s d, P s → Q (s.finish (.ok d))
  okSent : ∀ s d, M s → Q (s.finish (.ok d))

/-- What else carries a property through a transfer. -/
structure TransferRules (P M Q : State → Prop) : Prop extends CallRules P M Q where
  build : ∀ s, P s → P (s.nextBlock s.nextBlockLen)
  ack : ∀ s, P s → P s.ackBlock
  endPage : ∀ s, P s → P s.endPage

section

variable {P M Q : State → Prop} {s : State}

theorem leads_transmit_of_calls (R : CallRules P M Q) {p : List Byte} (hp : p.length ∈ [1, 16, 64]) (h : P s) :
    (transmit p s).Leads (fun _ => M) Q := by
  obtain ⟨ha, ht⟩ | ⟨ha, ht⟩ | ⟨ha, ht⟩ := transmit_cases p s <;> rw [ht]
  · exact R.sent s p h hp ha
  · exact R.sendFault s p h hp ha
  · exact R.sendHang s p h hp ha

theorem leads_receive_of_calls (R : CallRules P M Q) (h : M s) : (receive s).Leads (fun _ => P) Q := by
  obtain ⟨b, ha, hb, ht⟩ | ⟨ha, ht⟩ | ⟨ha, ht⟩ := receive_cases s <;> rw [ht]
  · exact R.received s b h ha hb
  · exact R.receiveFault s h ha
  · exact R.receiveHang s h ha

theorem leads_checkResponse_of_calls (R : CallRules P M Q) (e : Expect) (b : List Byte) (h : P s) :
    (checkResponse e b s).Leads (fun _ => P) Q := by
  unfold checkResponse
  split
  · exact h
  · exact R.mismatch s b h

/-- An exchange goes on after its response, or after its send when it expects none. -/
theorem leads_exchange_of_calls (R : CallRules P M Q) {payload : List Byte} {t : Nat} (e : Expect)
    (ht : t ∈ [1, 16, 64]) (hp : payload.length ≤ t) (h : P s) :
    (exchange payload t e s).Leads (fun _ u => if e = .none then M u else P u) Q := by
  refine leads_andThen (leads_transmit_of_calls R (by rwa [pad_length hp]) h) fun _ s1 h1 => ?_
  cases e with
  | none => exact h1
  | ack | exact q | len m =>
    exact leads_andThen (leads_receive_of_calls R h1) fun b s2 h2 => leads_checkResponse_of_calls R _ b h2

theorem leads_exchangeCmd_of_calls (R : CallRules P M Q) {c : Cmd} {params : List Byte}
    (hok : c.paramsOk params.length = true) (h : P s) :
    (exchangeCmd c params s).Leads (fun _ u => if cmdExpect c = .none then M u else P u) Q :=
  leads_exchange_of_calls R _ (tsize_legal c) (template_length_le hok) h

theorem leads_exchangeStep_of_calls (R : TransferRules P M Q) (x : NextExchange) (h : P s) :
    (exchangeStep x s).Leads (fun _ => P) Q := by
  have hcalls := R.toCallRules
  cases x with
  | block =>
    have hok : Cmd.rasterblk.paramsOk (s.pmBytes s.pos s.nextBlockLen).length = true := by
      simpa [Cmd.paramsOk] using (nextBlockLen_le s).1
    exact leads_andThen (leads_exchangeCmd_of_calls hcalls hok (R.build s h)) fun _ u hu => R.ack u hu
  | rasterEnd =>
    exact leads_andThen (leads_exchangeCmd_of_calls hcalls (c := .rasterend) rfl h) fun _ u hu => hu
  | printPage =>
    refine leads_andThen (leads_exchangeCmd_of_calls hcalls (c := .printpage) rfl h) fun _ u hu => ?_
    split
    · exact R.endPage u hu
    · exact R.ok _ _ (R.endPage u hu)

/-- What holds wherever the exchange steps of a transfer leave the block. -/
theorem leads_transfer (R : TransferRules P M Q) (steps : Nat) (h : P s.startTransfer) :
    (exchangeSteps steps .block s.startTransfer).Leads (fun _ => P) Q :=
  leads_exchangeSteps (fun x _ => leads_exchangeStep_of_calls R x) steps h

/-- What holds where an operation has ended; a transfer is left to `hrun`. -/
theorem runs_rule_of_calls (R : CallRules P M Q) {t : State} {i : Instr} (h : Runs s i t)
    (hnoCall : EndsLocally s i t → Q t) (hP : s.fatal = false → P s) (hM : i = .recv → s.fatal = false → M s)
    (hrun : i = .rxfer → s.fatal = false → exchangeSteps (2 * s.n + 1) .block s.startTransfer = .ended t → Q t) :
    Q t := by
  cases h with
  | noCall hends => exact hnoCall hends
  | send hlive hsize =>
    obtain ⟨ht, hp⟩ := (sizeOk_iff _ _).mp hsize
    exact finally_of_leads (leads_transmit_of_calls R (by rwa [pad_length hp]) (hP hlive)) fun _ u => R.okSent u _
  | recv hlive => exact finally_of_leads (leads_receive_of_calls R (hM rfl hlive)) fun _ u => R.ok u _
  | command hi hok hlive =>
    refine finally_of_leads (leads_exchangeCmd_of_calls R hok (hP hlive)) fun d u hu => ?_
    split at hu
    · exact R.okSent u d hu
    · exact R.ok u d hu
  | transfer hlive ht => exact hrun rfl hlive ht

/-- What holds where an operation, a transfer included, has ended. -/
theorem runs_rule_of_transfer (R : TransferRules P M Q) {t : State} {i : Instr} (h : Runs s i t)
    (hnoCall : EndsLocally s i t → Q t) (hP : P s) (hstart : P s.startTransfer) (hM : i = .recv → M s) : Q t :=
  runs_rule_of_calls R.toCallRules h hnoCall (fun _ => hP) (fun hi _ => hM hi) fun _ _ ht => by
    have hleads := leads_transfer R (2 * s.n + 1) hstart
    rwa [ht] at hleads

end

/-! ### What no link call changes -/

/-- What a link call, whatever its answer, and an exchange of a transfer leave as they were. -/
structure LinkFrame (s t : State) : Prop where
  w : t.w = s.w
  hin : t.hin = s.hin
  h : t.h = s.h
  padtop : t.padtop = s.padtop
  stride : t.stride = s.stride
  n : t.n = s.n
  bm : t.bm = s.bm
  pm : t.pm = s.pm
  pvalid : t.pvalid = s.pvalid
  trunc : t.trunc = s.trunc
  host : t.host = s.host
  epoch : t.epoch = s.epoch
  imageEpoch : t.imageEpoch = s.imageEpoch

theorem LinkFrame.refl (s : State) : LinkFrame s s := ⟨rfl, rfl, rfl, rfl, rfl, rfl, rfl, rfl, rfl, rfl, rfl, rfl, rfl⟩

theorem LinkFrame.fault {s t : State} (h : LinkFrame s t) : LinkFrame s t.transportFault :=
  { h with
    pvalid := (transportFault_pvalid t).trans h.pvalid
    trunc := (transportFault_trunc t).trans h.trunc }

theorem linkFrame_rules (s : State) : ExchangeRules (LinkFrame s) (LinkFrame s) where
  tx := fun _ _ h _ => { h with }
  txFault := fun t p h _ => LinkFrame.fault (t := t.linkTx p) { h with }
  rx := fun _ h _ => { h with }
  rxFault := fun t h _ => LinkFrame.fault (t := t.linkRx) { h with }
  store := fun _ _ h => { h with }
  stall := fun _ _ h => { h with }
  ok := fun _ _ h => { h with }
  mismatch := fun _ _ h _ => { h with }
  start := fun _ h => { h with }
  build := fun _ _ h => { h with }
  ack := fun _ h => { h with }
  endPage := fun _ h => { h with }

/-- An operation ends without a link call, or leaves what no link call changes. -/
theorem endsLocally_or_linkFrame {i : Instr} {s t : State} (h : exec i s = .next t) :
    EndsLocally s i t ∨ LinkFrame s t := by
  by_cases hends : EndsLocally s i t
  · exact .inl hends
  · exact .inr (runs_rule (linkFrame_rules s) (runs_of_exec h) (absurd · hends) fun _ => .refl s)

/-! ### Which operation touches what -/

/-- Settles O14: an operation that calls the link leaves the geometry (`LinkFrame`), and of the others only SETGEOM
writes it. -/
theorem geometryOnlyBySetgeom : Obligations.GeometryOnlyBySetgeom := by
  intro i s t hset hexec
  obtain hends | h := endsLocally_or_linkFrame hexec
  · cases hends with
    | setgeom w h => exact absurd rfl (hset w _)
    | answer | wrbm | xpose | emptyTransfer => exact ⟨rfl, rfl, rfl, rfl, rfl, rfl⟩
  · exact ⟨h.w, h.hin, h.h, h.padtop, h.stride, h.n⟩

theorem chunkerKept_callRules (s : State) : CallRules (ChunkerKept s) (ChunkerKept s) (ChunkerKept s) where
  sent := fun _ _ h _ _ => h
  sendFault := fun _ _ h _ _ => h
  sendHang := fun _ _ h _ _ => h
  received := fun _ _ h _ _ => h
  receiveFault := fun _ h _ => h
  receiveHang := fun _ h _ => h
  mismatch := fun _ _ h => h
  ok := fun _ _ h => h
  okSent := fun _ _ h => h

/-- Every operation but RXFER leaves the chunker's registers and its buffer. -/
theorem chunkerKept_of_exec {i : Instr} {s t : State} (hi : i ≠ .rxfer) (h : exec i s = .next t) : ChunkerKept s t := by
  have hrefl : ChunkerKept s s := ⟨rfl, rfl, rfl, rfl⟩
  refine runs_rule_of_calls (chunkerKept_callRules s) (runs_of_exec h) (fun hends => ?_) (fun _ => hrefl)
    (fun _ _ => hrefl) (fun hrx => absurd hrx hi)
  cases hends with
  | answer | setgeom | wrbm | xpose => exact hrefl
  | emptyTransfer => exact absurd rfl hi

/-- A send leaves RXLEN and RXBUF, whatever its answer. -/
theorem leads_transmit_rxKept (p : List Byte) (s : State) :
    (transmit p s).Leads (fun _ t => t.rxlen = s.rxlen ∧ t.rxbuf = s.rxbuf)
      (fun t => t.rxlen = s.rxlen ∧ t.rxbuf = s.rxbuf) := by
  obtain ⟨-, ht⟩ | ⟨-, ht⟩ | ⟨-, ht⟩ := transmit_cases p s <;> rw [ht] <;> exact ⟨rfl, rfl⟩

/-- So does Cancel job, whose exchange is its send (R88). -/
theorem leads_cancel_rxKept (params : List Byte) (s : State) :
    (exchangeCmd .cancel params s).Leads (fun _ t => t.rxlen = s.rxlen ∧ t.rxbuf = s.rxbuf)
      (fun t => t.rxlen = s.rxlen ∧ t.rxbuf = s.rxbuf) :=
  leads_andThen (leads_transmit_rxKept _ s) fun _ _ h => h

/-- An operation that makes no receive leaves RXLEN and RXBUF. -/
theorem rxKept_of_runs {i : Instr} {s t : State} (h : Runs s i t) (hrecv : i ≠ .recv) (hrxfer : i ≠ .rxfer)
    (hcmd : ∀ c params, Claims.commandOf i = some (c, params) → c = .cancel) :
    t.rxlen = s.rxlen ∧ t.rxbuf = s.rxbuf := by
  cases h with
  | noCall hends => cases hends <;> exact ⟨rfl, rfl⟩
  | send => exact finally_of_leads (leads_transmit_rxKept _ s) fun _ _ h => h
  | recv => exact absurd rfl hrecv
  | command hi =>
    obtain rfl := hcmd _ _ hi
    exact finally_of_leads (leads_cancel_rxKept _ s) fun _ _ h => h
  | transfer => exact absurd rfl hrxfer

/-- What an operation leaves besides RXLEN, RXBUF and the chunker's registers, by the one operation that writes it. -/
theorem buffersKept_of_exec {i : Instr} {s t : State} (hexec : exec i s = .next t) :
    ((∀ a v, i ≠ .wrbm a v) → (∀ w h, i ≠ .setgeom w h) → t.bm = s.bm) ∧
      (i ≠ .xpose → (∀ w h, i ≠ .setgeom w h) → t.pm = s.pm) ∧
      ((∀ w h, i ≠ .setgeom w h) → t.imageEpoch = s.imageEpoch) ∧ t.host = s.host ∧ t.epoch = s.epoch := by
  obtain hends | h := endsLocally_or_linkFrame hexec
  · cases hends with
    | answer | emptyTransfer => exact ⟨fun _ _ => rfl, fun _ _ => rfl, fun _ => rfl, rfl, rfl⟩
    | setgeom w h =>
      exact ⟨fun _ hset => absurd rfl (hset w h), fun _ hset => absurd rfl (hset w h),
        fun hset => absurd rfl (hset w h), rfl, rfl⟩
    | wrbm a v => exact ⟨fun hwrbm _ => absurd rfl (hwrbm a v), fun _ _ => rfl, fun _ => rfl, rfl, rfl⟩
    | xpose => exact ⟨fun _ _ => rfl, fun hxpose _ => absurd rfl hxpose, fun _ => rfl, rfl, rfl⟩
  · exact ⟨fun _ _ => h.bm, fun _ _ => h.pm, fun _ => h.imageEpoch, h.host, h.epoch⟩

/-- Settles O15: the buffers by `buffersKept_of_exec`, the chunker's registers by `chunkerKept_of_exec`, RXLEN and RXBUF
by `rxKept_of_runs`. -/
theorem whatOperationsTouch : Obligations.WhatOperationsTouch := by
  intro i s t hexec
  obtain ⟨hbm, hpm, himage, hhost, hepoch⟩ := buffersKept_of_exec hexec
  have hruns := runs_of_exec hexec
  refine ⟨hbm, hpm, himage, fun hi => chunkerKept_of_exec hi hexec, fun hi => ?_, hhost, hepoch⟩
  rcases hi with ⟨_, rfl⟩ | ⟨_, _, rfl⟩ | rfl | ⟨_, rfl⟩ | ⟨_, _, rfl⟩ | ⟨_, _, rfl⟩ | ⟨_, rfl⟩ | rfl | ⟨_, rfl⟩
  all_goals exact rxKept_of_runs hruns nofun nofun fun _ _ hcmd => by cases hcmd <;> rfl

/-- Settles O16: of what `Runs` lists, these operations can only end without a link call, which touches neither the link
nor what the block waits for. -/
theorem noLinkCalls : Obligations.NoLinkCalls := by
  intro i s t hi hexec
  have hends : EndsLocally s i t := by
    rcases hi with ⟨_, rfl⟩ | ⟨_, _, rfl⟩ | ⟨_, _, rfl⟩ | ⟨_, rfl⟩ | rfl | ⟨_, rfl⟩
    all_goals
      cases runs_of_exec hexec with
      | noCall hends => exact hends
      | command hcmd => cases hcmd
  cases hends <;> exact ⟨rfl, rfl, rfl, rfl⟩

/-! ### SETGEOM (R104) and the flags of the Pattern (R28) -/

theorem exec_setgeom_ok {s : State} {w h : Nat} (hlive : s.fatal = false) (hok : geomOk w h = true) :
    exec (.setgeom w h) s = .next ((s.setGeometry w h).finish (.ok .none)) := by
  simp [exec, execSetgeom, unlessDead_live hlive, hok]

theorem exec_setgeom_refused {s : State} {w h : Nat} (hlive : s.fatal = false) (hbad : geomOk w h = false) :
    exec (.setgeom w h) s = .next (s.finish (.refused .geom)) := by
  simp [exec, execSetgeom, unlessDead_live hlive, hbad]

theorem exec_setgeom_dead {s : State} {w h : Nat} (hdead : s.fatal = true) :
    exec (.setgeom w h) s = .next (s.finish (.refused .dead)) := by
  simp [exec, execSetgeom, unlessDead_dead hdead]

theorem geomOk_iff (w h : Nat) :
    geomOk w h = true ↔ (1 ≤ w ∧ w ≤ Config.wMax) ∧ (1 ≤ h ∧ h ≤ Config.hInMax) := by
  simp only [geomOk, Bool.and_eq_true, decide_eq_true_eq, Nat.succ_le_iff]
  tauto

theorem statusNewGeometry_eq_and (f : BitVec 3) : statusNewGeometry f = f &&& 4#3 := by revert f; decide

/-- Settles O40: one equation of SETGEOM for each of its three cases. -/
theorem setgeomWritesGeometry : Obligations.SetgeomWritesGeometry := by
  refine fun s w h => ⟨fun hlive h1 h2 h3 h4 => ?_, fun hlive hbad => ?_, exec_setgeom_dead⟩
  · rw [exec_setgeom_ok hlive ((geomOk_iff w h).mpr ⟨⟨h1, h2⟩, h3, h4⟩), ← statusNewGeometry_eq_and]
    rfl
  · refine exec_setgeom_refused hlive (Bool.eq_false_iff.mpr fun hok => ?_)
    have := (geomOk_iff w h).mp hok
    omega

theorem pvalid_of_xpose_ok {s t : State} (h : exec .xpose s = .next t) (hres : t.result = some (.ok .none)) :
    t.pvalid = true := by
  cases hf : s.fatal with
  | true => cases (exec_xpose_dead hf).symm.trans h; cases hres
  | false =>
    by_cases hw : s.w = 0
    · cases (exec_xpose_notready hf hw).symm.trans h; cases hres
    · cases (exec_xpose_live hf hw).symm.trans h
      exact markXposed_pvalid _

theorem pvalid_of_setgeom_ok {s t : State} {w h : Nat} (hexec : exec (.setgeom w h) s = .next t)
    (hres : t.result = some (.ok .none)) : t.pvalid = false := by
  cases hf : s.fatal with
  | true => cases (exec_setgeom_dead hf).symm.trans hexec; cases hres
  | false =>
    cases hok : geomOk w h with
    | false => cases (exec_setgeom_refused hf hok).symm.trans hexec; cases hres
    | true =>
      cases (exec_setgeom_ok hf hok).symm.trans hexec
      exact setGeometry_pvalid s w h

/-- Settles O17: PVALID and TRUNC are in `LinkFrame`; of the operations that call no link only SETGEOM and XPOSE, when they
end with OK, write them. -/
theorem patternFlags : Obligations.PatternFlags := by
  intro i s t hexec
  refine ⟨fun hset hxpose => ?_, fun hres => ?_, fun hres hi => ?_, fun hres ⟨w, h, hi⟩ => ?_⟩
  · obtain hends | h := endsLocally_or_linkFrame hexec
    · cases hends with
      | answer | wrbm | emptyTransfer => exact ⟨rfl, rfl⟩
      | setgeom w h => exact absurd rfl (hset w h)
      | xpose => exact absurd rfl hxpose
    · exact ⟨h.pvalid, h.trunc⟩
  · obtain hends | h := endsLocally_or_linkFrame hexec
    · cases hends with
      | answer => exact ⟨rfl, rfl⟩
      | setgeom | wrbm | xpose | emptyTransfer => exact absurd rfl hres
    · exact ⟨h.pvalid, h.trunc⟩
  · subst hi; exact pvalid_of_xpose_ok hexec hres
  · subst hi; exact pvalid_of_setgeom_ok hexec hres

/-- Settles O43: WRBM writes the byte (`wrbmWritesOneByte`); then only a WRBM at another address and an accepted SETGEOM
write BM or renew its free values. -/
theorem bitmapByteStays : Obligations.BitmapByteStays := by
  intro s t u a v i hlive ha hwrite hi hexec hset
  obtain ⟨hwrites, -, -⟩ := wrbmWritesOneByte s a v
  obtain ⟨t', ht', hbyte, -, -⟩ := hwrites hlive ha
  cases ht'.symm.trans hwrite
  rw [← hbyte]
  obtain hends | h := endsLocally_or_linkFrame hexec
  · cases hends with
    | answer | xpose | emptyTransfer => rfl
    | setgeom w h => exact absurd rfl (hset w h rfl)
    | wrbm b w =>
      have hab : a ≠ b := by rintro rfl; exact hi w rfl
      rw [finish_bmByte, bmByte_writeBm, if_neg hab]
  · rw [State.bmByte, State.bmByte, h.bm, h.imageEpoch]

/-! ### A refusal changes nothing (R131) -/

/-- The operation ended otherwise than with a refusal, or hangs. -/
def NotRefused (t : State) : Prop := ∀ r, t.result ≠ some (.refused r)

theorem notRefused_rules : ExchangeRules (fun _ => True) NotRefused where
  tx := fun _ _ _ _ => trivial
  txFault := fun _ _ _ _ => nofun
  rx := fun _ _ _ => trivial
  rxFault := fun _ _ _ => nofun
  store := fun _ _ _ => trivial
  stall := fun _ _ _ => nofun
  ok := fun _ _ _ => nofun
  mismatch := fun _ _ _ _ => nofun
  start := fun _ _ => trivial
  build := fun _ _ _ => trivial
  ack := fun _ _ => trivial
  endPage := fun _ _ => trivial

/-- Settles O11: no operation that calls the link is refused, and of the others only an answer can be a refusal. -/
theorem refusedChangesNothing : Obligations.RefusedChangesNothing := by
  intro i s t r hexec hres
  by_cases hends : EndsLocally s i t
  · cases hends with
    | answer => cases hres; rfl
    | setgeom | wrbm | xpose | emptyTransfer => cases hres
  · exact absurd hres (runs_rule notRefused_rules (runs_of_exec hexec) (absurd · hends) (fun _ => trivial) r)

end Sys2Proof.Machine

/-! The link calls of an operation (20_memory.md R46, R54, 40_frame_formatter.md R79, 60_exceptions.md R145): answered or
the last one, legal, one answer each, a send first. -/

namespace Sys2Proof.Machine

open Sys2Proof

/-! ### Calls that all have a property -/

/-- The link calls from `s` to `t` all meet `p`. -/
def MadeAll (p : LinkEvent → Prop) (s t : State) : Prop := ∃ calls, Claims.Made s t calls ∧ ∀ e ∈ calls, p e

theorem made_nil {s t : State} (h : t.trace = s.trace) : Claims.Made s t [] := by simp [Claims.Made, h]

theorem made_call {s t u : State} {calls : List LinkEvent} {e : LinkEvent} (h : Claims.Made s t calls)
    (htrace : u.trace = t.trace ++ [e]) : Claims.Made s u (calls ++ [e]) := by
  rw [Claims.Made, htrace, h, List.append_assoc]

theorem madeAll_of_trace_eq {p : LinkEvent → Prop} {s t : State} (h : t.trace = s.trace) : MadeAll p s t :=
  ⟨[], made_nil h, nofun⟩

theorem madeAll_call {p : LinkEvent → Prop} {s t u : State} {e : LinkEvent} (h : MadeAll p s t) (he : p e)
    (htrace : u.trace = t.trace ++ [e]) : MadeAll p s u := by
  obtain ⟨calls, hmade, hall⟩ := h
  refine ⟨calls ++ [e], made_call hmade htrace, fun e' he' => ?_⟩
  obtain hold | rfl := List.mem_append.mp he' |>.imp_right List.mem_singleton.mp
  · exact hall e' hold
  · exact he

/-! ### Legal calls (R54, R79) -/

theorem legal_tx (s : State) {p : List Byte} (hp : p.length ∈ [1, 16, 64]) : (LinkEvent.tx p (s.txAnswer p)).Legal := by
  unfold State.txAnswer
  cases s.txAnswers.headD .silent with
  | done n => exact ⟨hp, Nat.min_le_right _ _⟩
  | error | silent => exact hp

theorem legal_rx (s : State) : (LinkEvent.rx s.rxAnswer).Legal := by
  cases h : s.rxAnswer with
  | data b => exact rxAnswer_data_length h
  | error | silent => trivial

theorem legalCalls_rules (s : State) :
    TransferRules (MadeAll LinkEvent.Legal s) (MadeAll LinkEvent.Legal s) (MadeAll LinkEvent.Legal s) where
  sent := fun t _ h hp _ => madeAll_call h (legal_tx t hp) rfl
  sendFault := fun t _ h hp _ => madeAll_call h (legal_tx t hp) rfl
  sendHang := fun t _ h hp _ => madeAll_call h (legal_tx t hp) rfl
  received := fun t _ h _ _ => madeAll_call h (legal_rx t) rfl
  receiveFault := fun t h _ => madeAll_call h (legal_rx t) rfl
  receiveHang := fun t h _ => madeAll_call h (legal_rx t) rfl
  mismatch := fun _ _ h => h
  ok := fun _ _ h => h
  okSent := fun _ _ h => h
  build := fun _ h => h
  ack := fun _ h => h
  endPage := fun _ h => h

/-- Settles O19: every call is legal when it is made (`legal_tx`, `legal_rx`). -/
theorem linkCallsAreLegal : Obligations.LinkCallsAreLegal := fun _ s _ hexec =>
  runs_rule_of_transfer (legalCalls_rules s) (runs_of_exec hexec) (fun hends => madeAll_of_trace_eq hends.frame.2.1)
    (madeAll_of_trace_eq rfl) (madeAll_of_trace_eq rfl) fun _ => madeAll_of_trace_eq rfl

/-! ### One result, or a hang on the last call (R11, R145) -/

/-- Nothing hangs and every call so far was answered. -/
def AllAnswered (s t : State) : Prop := t.waiting = none ∧ MadeAll (fun e => Claims.unanswered e = none) s t

/-- The operation has a result and every call was answered, or it hangs on its last call, the one not answered. -/
def ResultOrHang (s t : State) : Prop :=
  ∃ calls, Claims.Made s t calls ∧
    ((t.waiting = none ∧ t.result.isSome = true ∧ ∀ e ∈ calls, Claims.unanswered e = none) ∨
      (t.result = none ∧ ∃ before e, calls = before ++ [e] ∧ (Claims.unanswered e).isSome = true ∧
        t.waiting = Claims.unanswered e ∧ ∀ e' ∈ before, Claims.unanswered e' = none))

theorem resultOrHang_of_result {s t : State} (h : AllAnswered s t) (hres : t.result.isSome = true) :
    ResultOrHang s t := by
  obtain ⟨hidle, calls, hmade, hall⟩ := h
  exact ⟨calls, hmade, .inl ⟨hidle, hres, hall⟩⟩

theorem resultOrHang_of_hang {s t u : State} {e : LinkEvent} {x : Wait} (h : AllAnswered s t)
    (he : Claims.unanswered e = some x) (htrace : u.trace = t.trace ++ [e]) : ResultOrHang s (u.stall x) := by
  obtain ⟨-, calls, hmade, hall⟩ := h
  exact ⟨calls ++ [e], made_call hmade htrace, .inr ⟨rfl, calls, e, rfl, by rw [he]; rfl, he.symm, hall⟩⟩

theorem allAnswered_call {s t u : State} {e : LinkEvent} (h : AllAnswered s t) (he : Claims.unanswered e = none)
    (hwait : u.waiting = t.waiting) (htrace : u.trace = t.trace ++ [e]) : AllAnswered s u :=
  ⟨hwait.trans h.1, madeAll_call h.2 he htrace⟩

theorem unanswered_of_isFault {e : LinkEvent} (h : Claims.isFault e) : Claims.unanswered e = none := by
  match e, h with
  | .tx _ (.done _), _ | .tx _ .error, _ | .rx .error, _ => rfl

theorem allAnswered_transportFault {s t : State} (h : AllAnswered s t) : ResultOrHang s t.transportFault :=
  resultOrHang_of_result (t := t.transportFault) h rfl

theorem resultOrHang_rules (s : State) : TransferRules (AllAnswered s) (AllAnswered s) (ResultOrHang s) where
  sent := fun t p h _ ha => allAnswered_call (u := t.linkTx p) h (by rw [ha]; rfl) rfl rfl
  sendFault := fun t p h _ ha =>
    allAnswered_transportFault (allAnswered_call (u := t.linkTx p) h (unanswered_of_isFault ha) rfl rfl)
  sendHang := fun t p h _ ha => resultOrHang_of_hang h (by rw [ha]; rfl) rfl
  received := fun t b h ha _ => allAnswered_call (u := t.linkRx.storeResponse b) h (by rw [ha]; rfl) rfl rfl
  receiveFault := fun t h ha =>
    allAnswered_transportFault (allAnswered_call (u := t.linkRx) h (by rw [ha]; rfl) rfl rfl)
  receiveHang := fun t h ha => resultOrHang_of_hang h (by rw [ha]; rfl) rfl
  mismatch := fun t b h => resultOrHang_of_result (t := t.finish (.mismatch b)) h rfl
  ok := fun t d h => resultOrHang_of_result (t := t.finish (.ok d)) h rfl
  okSent := fun t d h => resultOrHang_of_result (t := t.finish (.ok d)) h rfl
  build := fun _ h => h
  ack := fun _ h => h
  endPage := fun _ h => h

theorem EndsLocally.waiting {s t : State} {i : Instr} (h : EndsLocally s i t) : t.waiting = s.waiting := by
  cases h <;> rfl

/-- Settles O9: until a call is not answered every call was (`AllAnswered`), and that call ends the operation without a
result. -/
theorem oneResultOrHang : Obligations.OneResultOrHang := by
  intro i s t hidle hexec
  have hstart : AllAnswered s s := ⟨hidle, madeAll_of_trace_eq rfl⟩
  refine runs_rule_of_transfer (resultOrHang_rules s) (runs_of_exec hexec) (fun hends => ?_) hstart hstart
    fun _ => hstart
  obtain ⟨-, htrace, r, -, hres⟩ := hends.frame
  exact resultOrHang_of_result ⟨hends.waiting.trans hidle, madeAll_of_trace_eq htrace⟩ (by rw [hres]; rfl)

/-! ### One answer for each call (R46, R54) -/

/-- The calls from `s` to `t` used the first answers of each direction, one for each call. -/
def AnswersUsed (s t : State) : Prop :=
  ∃ calls, Claims.Made s t calls ∧ t.txAnswers = s.txAnswers.drop (sentPackets calls).length ∧
    t.rxAnswers = s.rxAnswers.drop (calls.length - (sentPackets calls).length)

theorem answersUsed_of_unchanged {s t : State} (htrace : t.trace = s.trace) (htx : t.txAnswers = s.txAnswers)
    (hrx : t.rxAnswers = s.rxAnswers) : AnswersUsed s t := ⟨[], made_nil htrace, htx, hrx⟩

theorem sentPackets_snoc_tx (calls : List LinkEvent) (p : List Byte) (a : TxAnswer) :
    sentPackets (calls ++ [.tx p a]) = sentPackets calls ++ [p] := sentPackets_append ..

theorem sentPackets_snoc_rx (calls : List LinkEvent) (a : RxAnswer) :
    sentPackets (calls ++ [.rx a]) = sentPackets calls := (sentPackets_append ..).trans (List.append_nil _)

theorem length_sentPackets_le (calls : List LinkEvent) : (sentPackets calls).length ≤ calls.length :=
  List.length_filterMap_le _ calls

theorem answersUsed_linkTx {s t : State} (p : List Byte) (h : AnswersUsed s t) : AnswersUsed s (t.linkTx p) := by
  obtain ⟨calls, hmade, htx, hrx⟩ := h
  refine ⟨calls ++ [.tx p (t.txAnswer p)], made_call hmade rfl, ?_, ?_⟩
  · simp [sentPackets_snoc_tx, htx]
  · simp [sentPackets_snoc_tx, hrx]

theorem answersUsed_linkRx {s t : State} (h : AnswersUsed s t) : AnswersUsed s t.linkRx := by
  obtain ⟨calls, hmade, htx, hrx⟩ := h
  have hle := length_sentPackets_le calls
  refine ⟨calls ++ [.rx t.rxAnswer], made_call hmade rfl, ?_, ?_⟩
  · rw [sentPackets_snoc_rx, linkRx_txAnswers, htx]
  · have hsub : calls.length + 1 - (sentPackets calls).length = calls.length - (sentPackets calls).length + 1 := by omega
    rw [sentPackets_snoc_rx, List.length_append, List.length_singleton, hsub, linkRx_rxAnswers, hrx, List.tail_drop]

theorem answersUsed_rules (s : State) : ExchangeRules (AnswersUsed s) (AnswersUsed s) where
  tx := fun _ p h _ => answersUsed_linkTx p h
  txFault := fun _ p h _ => answersUsed_linkTx p h
  rx := fun _ h _ => answersUsed_linkRx h
  rxFault := fun _ h _ => answersUsed_linkRx h
  store := fun _ _ h => h
  stall := fun _ _ h => h
  ok := fun _ _ h => h
  mismatch := fun _ _ h _ => h
  start := fun _ h => h
  build := fun _ _ h => h
  ack := fun _ h => h
  endPage := fun _ h => h

/-- Settles O20, by `answersUsed_linkTx` and `answersUsed_linkRx`. -/
theorem oneAnswerPerCall : Obligations.OneAnswerPerCall := fun _ s _ hexec =>
  runs_rule (answersUsed_rules s) (runs_of_exec hexec)
    (fun hends => by cases hends <;> exact answersUsed_of_unchanged rfl rfl rfl)
    fun _ => answersUsed_of_unchanged rfl rfl rfl

/-! ### A send, then its receive (R49(d), R128) -/

/-- Sends and receives alternate, a send first. -/
def Alternates (calls : List LinkEvent) : Prop := ∀ j e, calls[j]? = some e → (j % 2 = 0 ↔ Claims.isTx e)

theorem alternates_append {calls : List LinkEvent} {e : LinkEvent} (h : Alternates calls)
    (he : calls.length % 2 = 0 ↔ Claims.isTx e) : Alternates (calls ++ [e]) := by
  intro j e' hj
  rw [List.getElem?_append] at hj
  split_ifs at hj with hlt
  · exact h j e' hj
  · obtain ⟨hlen, rfl⟩ := List.getElem?_eq_some_iff.mp hj
    rw [List.length_singleton] at hlen
    have hjl : j = calls.length := by omega
    subst hjl
    simpa using he

/-- The calls from `s` to `t` alternate, and their number is even or odd as `r` says. -/
def MadeAlternating (r : Nat) (s t : State) : Prop :=
  ∃ calls, Claims.Made s t calls ∧ Alternates calls ∧ calls.length % 2 = r

/-- The calls from `s` to `t` alternate. -/
def CallsAlternate (s t : State) : Prop := ∃ calls, Claims.Made s t calls ∧ Alternates calls

theorem callsAlternate_of_made {r : Nat} {s t : State} (h : MadeAlternating r s t) : CallsAlternate s t := by
  obtain ⟨calls, hmade, halt, -⟩ := h
  exact ⟨calls, hmade, halt⟩

theorem madeAlternating_of_trace_eq {s t : State} (h : t.trace = s.trace) : MadeAlternating 0 s t :=
  ⟨[], made_nil h, nofun, rfl⟩

theorem madeAlternating_tx {s t u : State} {p : List Byte} {a : TxAnswer} (h : MadeAlternating 0 s t)
    (htrace : u.trace = t.trace ++ [.tx p a]) : MadeAlternating 1 s u := by
  obtain ⟨calls, hmade, halt, heven⟩ := h
  exact ⟨_, made_call hmade htrace, alternates_append halt (iff_of_true heven ⟨p, a, rfl⟩), by
    rw [List.length_append, List.length_singleton]; omega⟩

theorem madeAlternating_rx {s t u : State} {a : RxAnswer} (h : MadeAlternating 1 s t)
    (htrace : u.trace = t.trace ++ [.rx a]) : MadeAlternating 0 s u := by
  obtain ⟨calls, hmade, halt, hodd⟩ := h
  exact ⟨_, made_call hmade htrace, alternates_append halt (iff_of_false (by omega) nofun), by
    rw [List.length_append, List.length_singleton]; omega⟩

theorem callsAlternate_rules (s : State) :
    TransferRules (MadeAlternating 0 s) (MadeAlternating 1 s) (CallsAlternate s) where
  sent := fun _ _ h _ _ => madeAlternating_tx h rfl
  sendFault := fun _ _ h _ _ => callsAlternate_of_made (madeAlternating_tx h rfl)
  sendHang := fun _ _ h _ _ => callsAlternate_of_made (madeAlternating_tx h rfl)
  received := fun _ _ h _ _ => madeAlternating_rx h rfl
  receiveFault := fun _ h _ => callsAlternate_of_made (madeAlternating_rx h rfl)
  receiveHang := fun _ h _ => callsAlternate_of_made (madeAlternating_rx h rfl)
  mismatch := fun _ _ h => callsAlternate_of_made h
  ok := fun _ _ h => callsAlternate_of_made h
  okSent := fun _ _ h => callsAlternate_of_made h
  build := fun _ h => h
  ack := fun _ h => h
  endPage := fun _ h => h

/-- Settles O21: an even number of calls between two exchanges, an odd one between a send and its receive
(`callsAlternate_rules`). -/
theorem sendThenReceive : Obligations.SendThenReceive := by
  intro i s t hi hexec
  have hstart : MadeAlternating 0 s s := madeAlternating_of_trace_eq rfl
  exact runs_rule_of_transfer (callsAlternate_rules s) (runs_of_exec hexec)
    (fun hends => callsAlternate_of_made (madeAlternating_of_trace_eq hends.frame.2.1)) hstart hstart
    fun hrecv => absurd hrecv hi

end Sys2Proof.Machine

/-! The invariant (10_state.md R17, R38, 20_memory.md): every named update keeps it, so every operation, every number of
exchange steps of a transfer, and every step do. -/

namespace Sys2Proof.Machine

open Sys2Proof

/-! ### Reset -/

/-- A state with the registers, flags and buffers of reset and a legal trace has the invariant. -/
theorem inv_applyReset {s : State} (htrace : ∀ e ∈ s.trace, e.Legal) : s.applyReset.Inv where
  geometry := .inl ⟨rfl, rfl, rfl, rfl, rfl, rfl⟩
  pos := Nat.zero_le _
  blklen := Nat.zero_le _
  pagecnt := Nat.zero_le _
  rxlen := Nat.zero_le _
  pvalid := fun h => absurd h (by simp)
  trunc := by simp
  bm := kept_nil _
  pm := kept_nil _
  blkbuf := kept_nil _
  rxbuf := kept_nil _
  waiting := nofun
  trace := htrace

/-- Settles O7: reset leaves what the reset input leaves but for the epochs, of which the invariant says nothing. -/
theorem invAtReset : Obligations.InvAtReset :=
  { inv_applyReset (s := State.reset) nofun with }

/-! ### The geometry -/

/-- The largest `N` bounds the one set. -/
theorem n_le_of_inv {s : State} (h : s.Inv) : s.n ≤ 16 * Config.wMax := by
  obtain ⟨-, -, -, -, -, hn⟩ | ⟨⟨-, hw⟩, -, -, -, -, hn⟩ := h.geometry <;> omega

theorem w_le_of_inv {s : State} (h : s.Inv) : s.w ≤ Config.wMax := by
  obtain ⟨hw, -⟩ | ⟨⟨-, hw⟩, -⟩ := h.geometry <;> omega

/-- The live part of BM lies within the buffer (R30, R47). -/
theorem bmLive_le_of_inv {s : State} (h : s.Inv) : s.bmLive ≤ (Config.wMax + 7) / 8 * Config.hInMax := by
  obtain ⟨-, -, -, -, hstride, -⟩ | ⟨⟨-, hw⟩, ⟨-, hhin⟩, -, -, hstride, -⟩ := h.geometry
  · simp [State.bmLive, hstride]
  · exact Nat.mul_le_mul (by omega) hhin

/-! ### Results, and the operations without a link call -/

/-- The invariant holds, no operation hangs and the block is live: what holds while an operation runs. -/
def Running (s : State) : Prop := s.Inv ∧ s.waiting = none ∧ s.fatal = false

theorem inv_of_idle {s : State} (hidle : s.waiting = none) : s.waiting.isSome = true → s.result = none ∧ s.fatal = false := by
  simp [hidle]

theorem inv_finish {s : State} (r : Result) (h : s.Inv) (hidle : s.waiting = none) : (s.finish r).Inv :=
  { h with waiting := inv_of_idle (s := s.finish r) hidle }

theorem inv_transportFault {s : State} (h : s.Inv) (hidle : s.waiting = none) : s.transportFault.Inv :=
  { h with
    pvalid := fun hv => h.pvalid ((transportFault_pvalid s).symm.trans hv)
    trunc := by rw [transportFault_trunc, transportFault_pvalid]; exact h.trunc
    waiting := inv_of_idle (s := s.transportFault) hidle }

theorem inv_stall {s : State} (x : Wait) (h : s.Inv) (hlive : s.fatal = false) : (s.stall x).Inv :=
  { h with waiting := fun _ => ⟨rfl, hlive⟩ }

theorem inv_unlessDead {s : State} {op : State → State} (h : s.Inv) (hidle : s.waiting = none)
    (hop : s.fatal = false → (op s).Inv) : (s.unlessDead op).Inv := by
  cases hf : s.fatal with
  | true => rw [unlessDead_dead hf]; exact inv_finish _ h hidle
  | false => rw [unlessDead_live hf]; exact hop hf

theorem inv_setGeometry {s : State} {w h : Nat} (hs : s.Inv) (hok : geomOk w h = true) : (s.setGeometry w h).Inv :=
  { hs with
    geometry := by
      obtain ⟨hw, hh⟩ := (geomOk_iff w h).mp hok
      exact .inr ⟨hw, hh, rfl, rfl, rfl, rfl⟩
    pvalid := fun hv => absurd hv (by simp)
    trunc := by simp
    bm := kept_nil _
    pm := kept_nil _
    waiting := fun hwait => by rw [setGeometry_fatal]; exact hs.waiting hwait }

theorem inv_writeBm {s : State} {a : Nat} (v : Byte) (h : s.Inv) (ha : a < s.bmLive) : (s.writeBm a v).Inv :=
  { h with bm := kept_poke a v h.bm (ha.trans_le (bmLive_le_of_inv h)) }

theorem inv_xposed {s : State} (h : s.Inv) (hw : s.w ≠ 0) : (s.writePm s.pattern).markXposed.Inv :=
  { h with
    pvalid := fun _ => Nat.one_le_iff_ne_zero.mpr hw
    trunc := by rw [trunc_xposed, decide_eq_true_iff, markXposed_pvalid]; exact (and_iff_right rfl).symm
    pm := kept_pokeAll 0 s.pattern h.pm (by
      have := w_le_of_inv h
      rw [pattern_length]
      omega)
    waiting := fun hwait => by rw [markXposed_fatal]; exact h.waiting hwait }

theorem inv_exec_setgeom {s t : State} {w h : Nat} (hs : s.Inv) (hidle : s.waiting = none)
    (hexec : exec (.setgeom w h) s = .next t) : t.Inv := by
  cases hexec
  refine inv_unlessDead hs hidle fun _ => ?_
  split
  next hok => exact inv_finish _ (inv_setGeometry hs hok) hidle
  next => exact inv_finish _ hs hidle

theorem inv_exec_wrbm {s t : State} {a : Nat} {v : Byte} (h : s.Inv) (hidle : s.waiting = none)
    (hexec : exec (.wrbm a v) s = .next t) : t.Inv := by
  cases hexec
  refine inv_unlessDead h hidle fun _ => ?_
  split
  next ha => exact inv_finish _ (inv_writeBm v h ha) hidle
  next => exact inv_finish _ h hidle

theorem inv_exec_xpose {s t : State} (h : s.Inv) (hidle : s.waiting = none) (hexec : exec .xpose s = .next t) :
    t.Inv := by
  cases hexec
  refine inv_unlessDead h hidle fun _ => ?_
  split
  next => exact inv_finish _ h hidle
  next hw => exact inv_finish _ (inv_xposed h hw) hidle

/-! ### The link calls -/

theorem legal_append {s : State} {e : LinkEvent} (h : s.Inv) (he : e.Legal) : ∀ e' ∈ s.trace ++ [e], e'.Legal := by
  intro e' he'
  obtain hold | rfl := List.mem_append.mp he' |>.imp_right List.mem_singleton.mp
  · exact h.trace e' hold
  · exact he

theorem inv_linkTx {s : State} {p : List Byte} (hp : p.length ∈ [1, 16, 64]) (h : s.Inv) : (s.linkTx p).Inv :=
  { h with trace := legal_append h (legal_tx s hp) }

theorem inv_linkRx {s : State} (h : s.Inv) : s.linkRx.Inv :=
  { h with trace := legal_append h (legal_rx s) }

theorem inv_storeResponse {s : State} {b : List Byte} (hb : b.length ≤ 64) (h : s.Inv) : (s.storeResponse b).Inv :=
  { h with
    rxlen := hb
    rxbuf := kept_pokeAll 0 b h.rxbuf (by omega) }

theorem running_rules : CallRules Running Running State.Inv where
  sent := fun _ _ ⟨h, hidle, hlive⟩ hp _ => ⟨inv_linkTx hp h, hidle, hlive⟩
  sendFault := fun s p ⟨h, hidle, _⟩ hp _ => inv_transportFault (s := s.linkTx p) (inv_linkTx hp h) hidle
  sendHang := fun s p ⟨h, _, hlive⟩ hp _ => inv_stall (s := s.linkTx p) _ (inv_linkTx hp h) hlive
  received := fun _ _ ⟨h, hidle, hlive⟩ _ hb => ⟨inv_storeResponse hb (inv_linkRx h), hidle, hlive⟩
  receiveFault := fun s ⟨h, hidle, _⟩ _ => inv_transportFault (s := s.linkRx) (inv_linkRx h) hidle
  receiveHang := fun s ⟨h, _, hlive⟩ _ => inv_stall (s := s.linkRx) _ (inv_linkRx h) hlive
  mismatch := fun _ _ ⟨h, hidle, _⟩ => inv_finish _ h hidle
  ok := fun _ _ ⟨h, hidle, _⟩ => inv_finish _ h hidle
  okSent := fun _ _ ⟨h, hidle, _⟩ => inv_finish _ h hidle

/-! ### A transfer -/

/-- While a transfer runs the block in hand fits behind the bytes acknowledged and into its page. -/
def Transferring (s : State) : Prop :=
  Running s ∧ s.pos + s.blklen ≤ 16 * Config.wMax ∧ s.pagecnt + s.blklen ≤ 8192

theorem inv_startTransfer {s : State} (h : s.Inv) : s.startTransfer.Inv :=
  { h with pos := Nat.zero_le _, blklen := Nat.zero_le _, pagecnt := Nat.zero_le _ }

theorem transferring_start {s : State} (h : Running s) : Transferring s.startTransfer :=
  ⟨⟨inv_startTransfer h.1, h.2⟩, Nat.zero_le _, Nat.zero_le _⟩

theorem template_rasterblk_length (params : List Byte) :
    (Cmd.rasterblk.template params).length = 4 + params.length := by
  simp [Cmd.template]; omega

theorem transferring_build {s : State} (h : Transferring s) : Transferring (s.nextBlock s.nextBlockLen) := by
  obtain ⟨⟨hinv, hrest⟩, hpos, hpage⟩ := h
  obtain ⟨hmax, hfit, hleft⟩ := nextBlockLen_le s
  have hn := n_le_of_inv hinv
  have hposInv := hinv.pos
  refine ⟨⟨{ hinv with blklen := hmax, blkbuf := kept_pokeAll 0 _ hinv.blkbuf ?_ }, hrest⟩, ?_, ?_⟩
  · rw [template_rasterblk_length, pmBytes_length]; omega
  · simp only [State.nextBlock, buildBlock_pos, buildBlock_blklen]; omega
  · simp only [State.nextBlock, buildBlock_pagecnt, buildBlock_blklen, Config.pageBytes] at hfit ⊢; omega

theorem transferring_ack {s : State} (h : Transferring s) : Transferring s.ackBlock := by
  obtain ⟨⟨hinv, hrest⟩, hpos, hpage⟩ := h
  exact ⟨⟨{ hinv with pos := hpos, pagecnt := hpage, blklen := Nat.zero_le _ }, hrest⟩, hpos, hpage⟩

theorem transferring_endPage {s : State} (h : Transferring s) : Transferring s.endPage := by
  obtain ⟨⟨hinv, hrest⟩, hpos, -⟩ := h
  have hlen : s.blklen ≤ 60 := hinv.blklen
  exact ⟨⟨{ hinv with pagecnt := Nat.zero_le _ }, hrest⟩, hpos, by simp only [endPage_pagecnt, endPage_blklen]; omega⟩

theorem transferring_rules : TransferRules Transferring Transferring State.Inv where
  sent := fun s p ⟨h, hbounds⟩ hp ha => ⟨running_rules.sent s p h hp ha, hbounds⟩
  sendFault := fun s p h => running_rules.sendFault s p h.1
  sendHang := fun s p h => running_rules.sendHang s p h.1
  received := fun s b ⟨h, hbounds⟩ ha hb => ⟨running_rules.received s b h ha hb, hbounds⟩
  receiveFault := fun s h => running_rules.receiveFault s h.1
  receiveHang := fun s h => running_rules.receiveHang s h.1
  mismatch := fun s b h => running_rules.mismatch s b h.1
  ok := fun s d h => running_rules.ok s d h.1
  okSent := fun s d h => running_rules.okSent s d h.1
  build := fun _ => transferring_build
  ack := fun _ => transferring_ack
  endPage := fun _ => transferring_endPage

theorem state_of_leads {α : Type} {I : α → State → Prop} {Q : State → Prop} {p : Phase α} (hp : p.Leads I Q)
    (hI : ∀ a s, I a s → Q s) : Q p.state := by
  cases p with
  | done a s => exact hI a s hp
  | ended s => exact hp

/-- The invariant holds after any number of exchange steps of a transfer. -/
theorem inv_rxferUpTo {s : State} (steps : Nat) (h : s.Inv) (hidle : s.waiting = none) : (s.rxferUpTo steps).Inv :=
  rxferUpTo_rule steps (fun _ => inv_finish _ h hidle) (fun _ _ => inv_finish _ h hidle)
    (fun _ _ _ => inv_finish _ (inv_startTransfer h) hidle)
    (fun hlive _ _ =>
      state_of_leads (leads_transfer transferring_rules steps (transferring_start ⟨h, hidle, hlive⟩)) fun _ _ ht => ht.1.1)

/-! ### Every operation, every step -/

theorem inv_exec {i : Instr} {s t : State} (h : s.Inv) (hidle : s.waiting = none) (hexec : exec i s = .next t) :
    t.Inv := by
  by_cases hends : EndsLocally s i t
  · cases hends with
    | answer => exact inv_finish _ h hidle
    | setgeom => exact inv_exec_setgeom h hidle hexec
    | wrbm => exact inv_exec_wrbm h hidle hexec
    | xpose => exact inv_exec_xpose h hidle hexec
    | emptyTransfer => exact inv_finish _ (inv_startTransfer h) hidle
  · refine runs_rule_of_calls running_rules (runs_of_exec hexec) (absurd · hends) (fun hlive => ⟨h, hidle, hlive⟩)
      (fun _ hlive => ⟨h, hidle, hlive⟩) fun hi _ _ => ?_
    subst hi
    cases hexec
    exact inv_rxferUpTo _ h hidle

theorem inv_takeHost {s : State} (h : s.Inv) : s.takeHost.Inv := { h with }

theorem inv_illegalOpsel {s : State} (h : s.Inv) (hidle : s.waiting = none) : s.illegalOpsel.Inv :=
  inv_unlessDead h hidle fun _ => inv_finish _ h hidle

theorem inv_execUpTo {i : Instr} {j : Nat} {s t : State} (h : s.Inv) (hidle : s.waiting = none)
    (hexec : execUpTo i j s = .next t) : t.Inv := by
  unfold execUpTo at hexec
  split_ifs at hexec
  · cases hexec; exact inv_rxferUpTo j h hidle
  · cases hexec; exact h
  · exact inv_exec h hidle hexec

/-- Settles O8, by the cases of `Steps`: an operation by `inv_exec`, an interrupted one by the trace it leaves. -/
theorem stepKeepsInv : Obligations.StepKeepsInv := by
  intro s t h hstep
  have hs := inv_takeHost h
  cases steps_of_step hstep with
  | idle | hangs => exact h
  | reset => exact inv_applyReset h.trace
  | operation _ hidle _ hexec => exact inv_exec hs hidle hexec
  | illegal _ hidle => exact inv_illegalOpsel hs hidle
  | interrupted _ hidle _ hexec => exact inv_applyReset (inv_execUpTo hs hidle hexec).trace
  | interruptedIllegal _ hidle => exact inv_applyReset (inv_illegalOpsel hs hidle).trace

end Sys2Proof.Machine

/-! Faults and hangs of SEND and of a command in either form (40_frame_formatter.md R74, R76, R78, 60_exceptions.md R144,
R145), and the one command that checks a length (R96). -/

namespace Sys2Proof.Machine

open Sys2Proof

/-! ### Get mounted tape (R96) -/

/-- Settles O36: `Match` against a length is equality of lengths. -/
theorem getTapeChecksLength : Obligations.GetTapeChecksLength :=
  commandRunsAs_of_commandOf (c := .gettape) rfl rfl rfl rfl (by decide) fun b => beq_iff_eq

/-! ### What the link's bad answers do -/

theorem transmit_fault {s : State} {packet : List Byte} {answer : TxAnswer} {rest : List TxAnswer}
    (h : s.txAnswers = answer :: rest) (hbad : answer = .error ∨ ∃ n, answer = .done n ∧ n < packet.length) :
    transmit packet s = .ended (s.linkTx packet).transportFault := by
  obtain rfl | ⟨n, rfl, hn⟩ := hbad
  · simp [transmit, State.txAnswer, h, txAdmit]
  · simp [transmit, State.txAnswer, h, txAdmit, hn]

theorem txAdmit_of_bad {len : Nat} {answer : TxAnswer}
    (hbad : answer = .error ∨ ∃ n, answer = .done n ∧ n < len) : txAdmit len answer = answer := by
  obtain rfl | ⟨n, rfl, hn⟩ := hbad
  · rfl
  · rw [txAdmit, Nat.min_eq_left hn.le]

theorem txAnswer_silent {s : State} (packet : List Byte) (h : s.txAnswers.head?.getD .silent = .silent) :
    s.txAnswer packet = .silent := by
  rw [State.txAnswer, List.headD_eq_head?_getD, h]
  rfl

theorem rxAnswer_silent {s : State} (h : s.rxAnswers.head?.getD .silent = .silent) : s.rxAnswer = .silent := by
  rw [State.rxAnswer, List.headD_eq_head?_getD, h]
  rfl

theorem transmit_silent {s : State} {packet : List Byte} (h : s.txAnswer packet = .silent) :
    transmit packet s = .ended ((s.linkTx packet).stall (.tx packet)) := by
  simp only [transmit, h]

theorem receive_silent {s : State} (h : s.rxAnswer = .silent) : receive s = .ended (s.linkRx.stall .rx) := by
  simp only [receive, h]

/-- A send that is never answered leaves everything but the answer, the trace and the wait (R145). -/
theorem linkTx_stall_eq {s : State} {packet : List Byte} (h : s.txAnswer packet = .silent) :
    (s.linkTx packet).stall (.tx packet) = { s with
      txAnswers := s.txAnswers.tail
      trace := s.trace ++ [.tx packet .silent]
      waiting := some (.tx packet)
      result := none } := by
  rw [State.stall, State.linkTx, h]

theorem linkRx_stall_eq {s : State} (h : s.rxAnswer = .silent) :
    s.linkRx.stall .rx = { s with
      rxAnswers := s.rxAnswers.tail
      trace := s.trace ++ [.rx .silent]
      waiting := some .rx
      result := none } := by
  rw [State.stall, State.linkRx, h]

/-! ### The operation whose link call ends it -/

theorem exec_send_of_ended {s u : State} {t : Nat} {payload : List Byte} (hlive : s.fatal = false)
    (hsize : sizeOk payload.length t = true) (h : transmit (pad payload t) s = .ended u) :
    exec (.send t payload) s = .next u := by
  simp only [exec, execSend, unlessDead_live hlive, hsize, if_pos, h, finally_ended]

theorem exec_command_of_transmit_ended {i : Instr} {c : Cmd} {params : List Byte} {s u : State}
    (hi : Claims.commandOf i = some (c, params)) (hok : c.paramsOk params.length = true) (hlive : s.fatal = false)
    (h : transmit (c.packet params) s = .ended u) : exec i s = .next u := by
  rw [exec_command_live hi hok hlive, exchangeCmd, exchange]
  exact congrArg (fun p : Phase Unit => Host.Outcome.next ((p.andThen _).finally _)) h

/-- An exchange that expects a response goes on from its send, written in full, to its receive. -/
theorem exchange_of_sent {payload : List Byte} {t : Nat} {e : Expect} {s s1 : State} (he : e ≠ .none)
    (h : transmit (pad payload t) s = .done () s1) :
    exchange payload t e s = (receive s1).andThen (checkResponse e) := by
  rw [exchange, h, andThen_done]
  cases e with
  | none => exact absurd rfl he
  | ack | exact q | len m => rfl

theorem cmdExpect_ne_none {c : Cmd} (hc : c ≠ .cancel) : cmdExpect c ≠ .none := by
  cases c
  case cancel => exact absurd rfl hc
  all_goals exact nofun

theorem exec_command_of_receive_ended {i : Instr} {c : Cmd} {params : List Byte} {s u : State}
    {trest : List TxAnswer} (hi : Claims.commandOf i = some (c, params)) (hc : c ≠ .cancel)
    (hok : c.paramsOk params.length = true) (hlive : s.fatal = false) (htx : s.txAnswers = .done c.tsize :: trest)
    (h : receive (s.linkTx (c.packet params)) = .ended u) : exec i s = .next u := by
  have hsent : transmit (c.packet params) s = .done () (s.linkTx (c.packet params)) :=
    transmit_done htx (packet_length hok).le
  rw [exec_command_live hi hok hlive, exchangeCmd, exchange_of_sent (cmdExpect_ne_none hc) hsent, h, andThen_ended,
    finally_ended]

/-! ### The faults (R74, R76) -/

theorem sizeOk_of {t n : Nat} (ht : t = 1 ∨ t = 16 ∨ t = 64) (hn : n ≤ t) : sizeOk n t = true :=
  (sizeOk_iff _ _).mpr ⟨by simpa using ht, hn⟩

/-- Settles O29: the send ends with the transport fault (`transmit_fault`), and the operation with it. -/
theorem sendFaultIsFatal : Obligations.SendFaultIsFatal := by
  intro s i packet answer trest hlive hi hbad htx
  have hended := transmit_fault htx hbad
  have hexec : exec i s = .next (s.linkTx packet).transportFault := by
    obtain ⟨t, payload, rfl, ht, hp, rfl⟩ | ⟨c, params, hcmd, hok, rfl⟩ := hi
    · exact exec_send_of_ended hlive (sizeOk_of ht hp) hended
    · exact exec_command_of_transmit_ended hcmd hok hlive hended
  rw [hexec, linkTx_eq _ htx, txAdmit_of_bad hbad, State.transportFault, statusFault_eq_or]

/-- What a whole packet written leaves, the packet and its answer in the trace. -/
theorem linkTx_packet {c : Cmd} {params : List Byte} {s : State} {trest : List TxAnswer}
    (hok : c.paramsOk params.length = true) (htx : s.txAnswers = .done c.tsize :: trest) :
    s.linkTx (c.packet params) =
      { s with txAnswers := trest, trace := s.trace ++ [.tx (c.packet params) (.done c.tsize)] } := by
  rw [linkTx_eq _ htx, packet_length hok, txAdmit_done_self]

/-- Settles O31: the receive ends with the transport fault (`receive_error`), before anything is stored or compared. -/
theorem receiveFaultIsFatal : Obligations.ReceiveFaultIsFatal := by
  intro s i c params trest rrest hlive hi hc hok htx hrx
  have hrx' : (s.linkTx (c.packet params)).rxAnswers = .error :: rrest := hrx
  rw [exec_command_of_receive_ended hi hc hok hlive htx (receive_error hrx'), linkRx_eq hrx', linkTx_packet hok htx]
  simp [State.transportFault, statusFault_eq_or]

/-! ### The hangs (R145) -/

theorem run_of_hang {s : State} (k : Nat) (hwait : s.waiting.isSome = true) (hhost : ∀ rest, s.host ≠ .reset :: rest) :
    Sys2Proof.core.run k s = .next s := by
  induction k with
  | zero => rfl
  | succ k ih =>
    have hstep : Sys2Proof.core.step s = .next s := step_of_hang hhost hwait
    simp only [Host.Core.run, hstep]
    exact ih

/-- Settles O32: the silent call ends each operation where it stands (`transmit_silent`, `receive_silent`), and a step of
a hanging block changes nothing (`step_of_hang`). -/
theorem unansweredTransferHangs : Obligations.UnansweredTransferHangs := by
  refine ⟨fun s t payload hlive ht hp hsilent => ?_, fun s hlive hsilent => ?_,
    fun s i c params hlive hi hok hsilent => ?_, fun s i c params trest hlive hi hc hok htx hsilent => ?_,
    fun k s => run_of_hang k⟩
  · have ha := txAnswer_silent (pad payload t) hsilent
    rw [exec_send_of_ended hlive (sizeOk_of ht hp) (transmit_silent ha), linkTx_stall_eq ha]
    rfl
  · have ha := rxAnswer_silent hsilent
    rw [← linkRx_stall_eq ha]
    simp [exec, execRecv, unlessDead_live hlive, receive_silent ha]
  · have ha := txAnswer_silent (c.packet params) hsilent
    rw [exec_command_of_transmit_ended hi hok hlive (transmit_silent ha), linkTx_stall_eq ha]
  · have ha : (s.linkTx (c.packet params)).rxAnswer = .silent := rxAnswer_silent hsilent
    rw [exec_command_of_receive_ended hi hc hok hlive htx (receive_silent ha), linkRx_stall_eq ha, linkTx_packet hok htx]
    simp

end Sys2Proof.Machine

/-! Stale bytes (10_state.md R32, R33, R36): two blocks that differ in the contents of BLKBUF and RXBUF alone do the same,
call for call, and differ in these alone afterwards. -/

namespace Sys2Proof.Machine

open Sys2Proof

/-- `t` is `s` but for the contents of BLKBUF and RXBUF. -/
def SameButStale (s t : State) : Prop := ∃ m1 m2, t = { s with blkbuf := m1, rxbuf := m2 }

/-- Two phases that both go on, with one value, or both have ended, at states that differ in stale bytes alone. -/
inductive Phase.Alike {α : Type} : Phase α → Phase α → Prop
  | done (a : α) {s t : State} (h : SameButStale s t) : Alike (.done a s) (.done a t)
  | ended {s t : State} (h : SameButStale s t) : Alike (.ended s) (.ended t)

section

variable {α β : Type} {s t : State}

theorem alike_andThen {p q : Phase α} {k : α → State → Phase β} (h : p.Alike q)
    (hk : ∀ a s t, SameButStale s t → (k a s).Alike (k a t)) : (p.andThen k).Alike (q.andThen k) := by
  cases h with
  | done a h => exact hk a _ _ h
  | ended h => exact .ended h

theorem sameButStale_finally {p q : Phase α} {k : α → State → State} (h : p.Alike q)
    (hk : ∀ a s t, SameButStale s t → SameButStale (k a s) (k a t)) : SameButStale (p.finally k) (q.finally k) := by
  cases h with
  | done a h => exact hk a _ _ h
  | ended h => exact h

theorem sameButStale_finish (r : Result) (h : SameButStale s t) : SameButStale (s.finish r) (t.finish r) := by
  obtain ⟨m1, m2, rfl⟩ := h
  exact ⟨m1, m2, rfl⟩

theorem sameButStale_unlessDead {op : State → State} (h : SameButStale s t)
    (hop : SameButStale (op s) (op t)) : SameButStale (s.unlessDead op) (t.unlessDead op) := by
  have hf : t.fatal = s.fatal := by obtain ⟨m1, m2, rfl⟩ := h; rfl
  cases hs : s.fatal with
  | true => rw [unlessDead_dead hs, unlessDead_dead (hf.trans hs)]; exact sameButStale_finish _ h
  | false => rwa [unlessDead_live hs, unlessDead_live (hf.trans hs)]

theorem sameButStale_ite {c d : Prop} [Decidable c] [Decidable d] {s' t' : State} (hc : d ↔ c) (h : SameButStale s t)
    (h' : SameButStale s' t') : SameButStale (if c then s else s') (if d then t else t') := by
  by_cases hs : c
  · rwa [if_pos hs, if_pos (hc.mpr hs)]
  · rwa [if_neg hs, if_neg (mt hc.mp hs)]

/-- An operation with one more check behind the dead check. -/
theorem sameButStale_checked {c : State → Prop} [DecidablePred c] {op : State → State} {r : Reason} (h : SameButStale s t)
    (hc : c t ↔ c s) (hop : SameButStale (op s) (op t)) :
    SameButStale (s.unlessDead fun s => if c s then op s else s.refuse r)
      (t.unlessDead fun t => if c t then op t else t.refuse r) :=
  sameButStale_unlessDead h (sameButStale_ite hc hop (sameButStale_finish _ h))

/-! ### The link calls -/

theorem alike_transmit (packet : List Byte) (h : SameButStale s t) : (transmit packet s).Alike (transmit packet t) := by
  obtain ⟨m1, m2, rfl⟩ := h
  have ha : ({ s with blkbuf := m1, rxbuf := m2 } : State).txAnswer packet = s.txAnswer packet := rfl
  unfold transmit
  rw [ha]
  cases s.txAnswer packet with
  | error | silent => exact .ended ⟨m1, m2, rfl⟩
  | done n =>
    dsimp only
    split
    · exact .ended ⟨m1, m2, rfl⟩
    · exact .done () ⟨m1, m2, rfl⟩

theorem alike_receive (h : SameButStale s t) : (receive s).Alike (receive t) := by
  obtain ⟨m1, m2, rfl⟩ := h
  have ha : ({ s with blkbuf := m1, rxbuf := m2 } : State).rxAnswer = s.rxAnswer := rfl
  unfold receive
  rw [ha]
  cases s.rxAnswer with
  | error | silent => exact .ended ⟨m1, m2, rfl⟩
  | data b => exact .done b ⟨m1, m2.pokeAll 0 b, rfl⟩

theorem alike_checkResponse (e : Expect) (b : List Byte) (h : SameButStale s t) :
    (checkResponse e b s).Alike (checkResponse e b t) := by
  unfold checkResponse
  split
  · exact .done _ h
  · exact .ended (sameButStale_finish _ h)

theorem alike_exchange (payload : List Byte) (size : Nat) (e : Expect) (h : SameButStale s t) :
    (exchange payload size e s).Alike (exchange payload size e t) := by
  refine alike_andThen (alike_transmit _ h) fun _ s1 t1 h1 => ?_
  cases e with
  | none => exact .done _ h1
  | ack | exact q | len m => exact alike_andThen (alike_receive h1) fun b _ _ => alike_checkResponse _ b

/-! ### A transfer, which builds each block from PM -/

theorem alike_exchangeStep (x : NextExchange) (h : SameButStale s t) : (exchangeStep x s).Alike (exchangeStep x t) := by
  cases x with
  | block =>
    obtain ⟨m1, m2, rfl⟩ := h
    refine alike_andThen (alike_exchange _ _ _ ⟨m1.pokeAll 0 _, m2, rfl⟩) fun _ s1 t1 h1 => ?_
    obtain ⟨m3, m4, rfl⟩ := h1
    exact .done _ ⟨m3, m4, rfl⟩
  | rasterEnd => exact alike_andThen (alike_exchange _ _ _ h) fun _ _ _ h1 => .done _ h1
  | printPage =>
    refine alike_andThen (alike_exchange _ _ _ h) fun _ s1 t1 h1 => ?_
    obtain ⟨m3, m4, rfl⟩ := h1
    dsimp only
    split
    · exact .done _ ⟨m3, m4, rfl⟩
    · exact .ended ⟨m3, m4, rfl⟩

theorem alike_exchangeSteps (steps : Nat) (x : NextExchange) (h : SameButStale s t) :
    (exchangeSteps steps x s).Alike (exchangeSteps steps x t) := by
  induction steps generalizing x s t with
  | zero => exact .done x h
  | succ steps ih => exact alike_andThen (alike_exchangeStep x h) fun y _ _ => ih y

theorem sameButStale_state {p q : Phase α} (h : p.Alike q) : SameButStale p.state q.state := by
  cases h <;> assumption

theorem sameButStale_rxferUpTo (steps : Nat) (h : SameButStale s t) :
    SameButStale (s.rxferUpTo steps) (t.rxferUpTo steps) := by
  have hstart : SameButStale s.startTransfer t.startTransfer := by
    obtain ⟨m1, m2, rfl⟩ := h
    exact ⟨m1, m2, rfl⟩
  have hpvalid : t.pvalid = true ↔ s.pvalid = true := by obtain ⟨m1, m2, rfl⟩ := h; exact Iff.rfl
  have hn : 0 < t.n ↔ 0 < s.n := by obtain ⟨m1, m2, rfl⟩ := h; exact Iff.rfl
  refine sameButStale_checked (c := fun s => s.pvalid = true) h hpvalid (sameButStale_ite hn ?_ ?_)
  · exact sameButStale_state (alike_exchangeSteps steps .block hstart)
  · exact sameButStale_finish _ hstart

/-! ### Every operation -/

theorem sameButStale_command {i : Instr} {c : Cmd} {params : List Byte} (hi : Claims.commandOf i = some (c, params))
    (h : SameButStale s t) : ∃ s' t', exec i s = .next s' ∧ exec i t = .next t' ∧ SameButStale s' t' := by
  refine ⟨_, _, exec_of_commandOf hi s, exec_of_commandOf hi t, ?_⟩
  exact sameButStale_checked (c := fun _ => c.paramsOk params.length = true) h Iff.rfl
    (sameButStale_finally (alike_exchange _ _ _ h) fun d _ _ => sameButStale_finish _)

end

/-- Each operation takes blocks that differ in stale bytes alone to blocks that do. -/
theorem sameButStale_exec {s t : State} (i : Instr) (h : SameButStale s t) :
    ∃ s' t', exec i s = .next s' ∧ exec i t = .next t' ∧ SameButStale s' t' := by
  cases i
  case rdcsr n =>
    obtain ⟨m1, m2, rfl⟩ := h
    cases hv : csrValue s n with
    | none => exact ⟨_, _, exec_rdcsr_none hv, exec_rdcsr_none hv, m1, m2, rfl⟩
    | some v => exact ⟨_, _, exec_rdcsr_some hv, exec_rdcsr_some hv, m1, m2, rfl⟩
  case send size payload =>
    exact ⟨_, _, rfl, rfl, sameButStale_checked (c := fun _ => sizeOk payload.length size = true) h Iff.rfl
      (sameButStale_finally (alike_transmit _ h) fun _ _ _ => sameButStale_finish _)⟩
  case recv =>
    exact ⟨_, _, rfl, rfl, sameButStale_unlessDead h
      (sameButStale_finally (alike_receive h) fun _ _ _ => sameButStale_finish _)⟩
  case xchg k params =>
    cases hk : Cmd.ofIndex k with
    | some c => exact sameButStale_command (c := c) (params := params) (by simp [Claims.commandOf, hk]) h
    | none =>
      refine ⟨_, _, rfl, rfl, ?_⟩
      simp only [runCommand, hk]
      exact sameButStale_unlessDead h (sameButStale_finish _ h)
  case setgeom w y =>
    refine ⟨_, _, rfl, rfl, sameButStale_checked (c := fun _ => geomOk w y = true) h Iff.rfl ?_⟩
    obtain ⟨m1, m2, rfl⟩ := h
    exact ⟨m1, m2, rfl⟩
  case wrbm a v =>
    obtain ⟨m1, m2, rfl⟩ := h
    exact ⟨_, _, rfl, rfl, sameButStale_checked (c := fun s => a < s.bmLive) ⟨m1, m2, rfl⟩ Iff.rfl ⟨m1, m2, rfl⟩⟩
  case rdbm a =>
    obtain ⟨m1, m2, rfl⟩ := h
    exact ⟨_, _, rfl, rfl, sameButStale_checked (c := fun s => a < s.bmLive) ⟨m1, m2, rfl⟩ Iff.rfl ⟨m1, m2, rfl⟩⟩
  case xpose =>
    obtain ⟨m1, m2, rfl⟩ := h
    exact ⟨_, _, rfl, rfl, sameButStale_unlessDead ⟨m1, m2, rfl⟩
      (sameButStale_ite Iff.rfl ⟨m1, m2, rfl⟩ ⟨m1, m2, rfl⟩)⟩
  case rdpm a =>
    obtain ⟨m1, m2, rfl⟩ := h
    exact ⟨_, _, rfl, rfl, sameButStale_checked (c := fun s => a < s.n) ⟨m1, m2, rfl⟩ Iff.rfl ⟨m1, m2, rfl⟩⟩
  case rxfer =>
    have hn : t.n = s.n := by obtain ⟨m1, m2, rfl⟩ := h; rfl
    refine ⟨_, _, rfl, rfl, ?_⟩
    rw [hn]
    exact sameButStale_rxferUpTo _ h
  all_goals exact sameButStale_command rfl h

/-- Settles O22, by `sameButStale_exec`. -/
theorem staleBytesInvisible : Obligations.StaleBytesInvisible := by
  intro i s t m1 m2 hexec
  obtain ⟨s', t', hs, ht, m3, m4, rfl⟩ := sameButStale_exec (s := s) i ⟨m1, m2, rfl⟩
  cases hs.symm.trans hexec
  exact ⟨m3, m4, ht⟩

end Sys2Proof.Machine

/-! What follows of the Pattern from its dots (42_transposer.md R108, R110, R111, R114 to R116). -/

namespace Sys2Proof.Machine

open Sys2Proof

/-! ### What the Pattern depends on (R108, R110, R111) -/

/-- A dot depends on the pixel of its column in the image. -/
theorem dotOf_congr {s1 s2 : State} {x : Nat} (hpad : s2.padtop = s1.padtop) (hh : s2.h = s1.h)
    (hpixel : ∀ r < s1.h, s2.pixel r x = s1.pixel r x) (p : Nat) : s2.dotOf p x = s1.dotOf p x := by
  unfold State.dotOf
  rw [hpad, hh]
  by_cases hp : s1.padtop ≤ p ∧ p < s1.padtop + s1.h
  · rw [hpixel _ (by omega)]
  · rw [← Bool.decide_and, decide_eq_false hp, Bool.false_and, Bool.false_and]

/-- Settles O48: the bits of a byte of the Pattern are the dots of one column, which `dotOf_congr` compares. -/
theorem padBitsAndDroppedRowsIgnored : Obligations.PadBitsAndDroppedRowsIgnored := by
  intro s1 s2 t1 t2 hlive1 hlive2 hw hwEq hh hpad hpixel hexec1 hexec2 a ha
  have hx : a / 16 < s1.w := by omega
  rw [pmByte_of_xpose hlive1 hw hexec1, pmByte_of_xpose hlive2 (hwEq ▸ hw) hexec2, hwEq, if_pos ha, if_pos ha]
  exact byteOfBits_congr fun k _ => dotOf_congr hpad hh (fun r hr => hpixel r hr _ hx) _

/-- Settles O49: XPOSE leaves what the Pattern is made from, so a second one writes the same bytes. -/
theorem xposeAgainGivesTheSame : Obligations.XposeAgainGivesTheSame := by
  intro s t u hlive hw hexec hagain a
  have ht := exec_xpose_live hlive hw
  cases ht.symm.trans hexec
  have hlive' : ((s.writePm s.pattern).markXposed.finish (.ok .none)).fatal = false :=
    (markXposed_fatal _).trans hlive
  rw [pmByte_of_xpose hlive' hw hagain]
  split
  next ha =>
    rw [pmByte_of_xpose hlive hw ht]
    exact (if_pos ha).symm
  next => rfl

/-! ### Untransposing (R114) -/

/-- What XPOSE leaves of the geometry. -/
theorem geometry_of_xpose {s t : State} (h : exec .xpose s = .next t) :
    t.w = s.w ∧ t.hin = s.hin ∧ t.h = s.h ∧ t.padtop = s.padtop ∧ t.stride = s.stride ∧ t.n = s.n :=
  geometryOnlyBySetgeom .xpose s t nofun h

/-- Every pixel of the image comes back. -/
theorem pixelBack_of_xpose {s t : State} (hlive : s.fatal = false) (hw : s.w ≠ 0) (hgeo : s.GeometryAgrees)
    (hexec : exec .xpose s = .next t) {r x : Nat} (hr : r < s.h) (hx : x < s.w) : t.pixelBack r x = s.pixel r x := by
  obtain ⟨-, -, -, hpad, -, -⟩ := geometry_of_xpose hexec
  have hfit := padtop_add_h_le hgeo
  rw [State.pixelBack, hpad, dot_of_xpose hlive hw hexec hx (by omega), dotOf_image s x hr]

/-- Bit `b` of byte `a` of BM is a pixel (R40). -/
theorem mbit_bmByte (s : State) (a : Nat) {b : Nat} (hb : b < 8) :
    mbit (s.bmByte a) b = s.pixel (a / s.stride) (8 * (a % s.stride) + b) := by
  have hcol : (8 * (a % s.stride) + b) / 8 = a % s.stride := by omega
  have hbit : (8 * (a % s.stride) + b) % 8 = b := by omega
  rw [State.pixel, hcol, hbit, Nat.div_add_mod']

/-- Bit `b` of byte `a` of the untransposed Bitmap is the pixel again, or a 0 where the byte is padded. -/
theorem mbit_untransposeByte {s t : State} (hlive : s.fatal = false) (hw : s.w ≠ 0) (hgeo : s.GeometryAgrees)
    (hexec : exec .xpose s = .next t) {a b : Nat} (ha : a / s.stride < s.h) (hb : b < 8) :
    mbit (t.untransposeByte a) b =
      if 8 * (a % s.stride) + b < s.w then s.pixel (a / s.stride) (8 * (a % s.stride) + b) else false := by
  obtain ⟨hwEq, -, -, -, hstride, -⟩ := geometry_of_xpose hexec
  rw [State.untransposeByte, mbit_byteOfBits _ b hb, hwEq, hstride]
  split
  next hx => rw [pixelBack_of_xpose hlive hw hgeo hexec ha hx, decide_eq_true hx, Bool.true_and]
  next hx => rw [decide_eq_false hx, Bool.false_and]

/-- Settles O47: pixels by `pixelBack_of_xpose`; a byte comes back exactly when its padded bits, which
`mbit_untransposeByte` gives as 0, were 0. -/
theorem untransposeGivesBitmapBack : Obligations.UntransposeGivesBitmapBack := by
  intro s t hlive hw htall hgeo hexec
  refine ⟨fun r hr x hx => pixelBack_of_xpose hlive hw hgeo hexec hr hx, fun hback r hr x hlo hhi => ?_,
    fun hpad a ha => byte_ext fun b hb => ?_⟩
  all_goals obtain ⟨hh, -, hstride, -⟩ := id hgeo
  · have hx : x / 8 < s.stride := by omega
    have hrow : (r * s.stride + x / 8) / s.stride = r := by
      rw [Nat.mul_comm, Nat.mul_add_div (by omega), Nat.div_eq_of_lt hx, Nat.add_zero]
    have hcol : (r * s.stride + x / 8) % s.stride = x / 8 := by
      rw [Nat.mul_comm, Nat.mul_add_mod, Nat.mod_eq_of_lt hx]
    have hlt : r * s.stride + x / 8 < s.stride * s.hin :=
      calc r * s.stride + x / 8 < r * s.stride + s.stride := by omega
        _ = s.stride * (r + 1) := by ring
        _ ≤ s.stride * s.hin := Nat.mul_le_mul_left _ hr
    have hbit := mbit_untransposeByte hlive hw hgeo hexec (a := r * s.stride + x / 8) (b := x % 8) (by omega) (by omega)
    rw [hback _ hlt, hcol, if_neg (by omega)] at hbit
    exact hbit
  · have hr : a / s.stride < s.hin := Nat.div_lt_of_lt_mul ha
    have hmod := Nat.mod_lt a (show 0 < s.stride by omega)
    rw [mbit_untransposeByte hlive hw hgeo hexec (by omega) hb, mbit_bmByte s a hb]
    split
    next => rfl
    next hx => exact (hpad _ hr _ (by omega) (by omega)).symm

/-! ### Counting (R115) -/

/-- The number of places below `n` that meet `p`, as a sum. -/
theorem countP_range_eq_sum (n : Nat) (p : Nat → Bool) :
    (List.range n).countP p = ∑ k ∈ Finset.range n, (p k).toNat := by
  induction n with
  | zero => rfl
  | succ n ih =>
    rw [List.range_succ, List.countP_append, ih, Finset.sum_range_succ, List.countP_singleton]
    cases p n <;> rfl

/-- A sum over `m * n` places, by rows of `m`. -/
theorem sum_range_mul (m n : Nat) (f : Nat → Nat) :
    ∑ a ∈ Finset.range (m * n), f a = ∑ x ∈ Finset.range n, ∑ g ∈ Finset.range m, f (m * x + g) := by
  induction n with
  | zero => rfl
  | succ n ih => rw [Nat.mul_succ, Finset.sum_range_add, ih, Finset.sum_range_succ]

/-- A column has as many dots as set pixels. -/
theorem sum_dotOf {s : State} (hgeo : s.GeometryAgrees) (x : Nat) :
    ∑ p ∈ Finset.range 128, (s.dotOf p x).toNat = ∑ r ∈ Finset.range s.h, (s.pixel r x).toNat := by
  have hfit := padtop_add_h_le hgeo
  have hrows : 128 = s.padtop + s.h + (128 - s.padtop - s.h) := by omega
  have habove : ∑ p ∈ Finset.range s.padtop, (s.dotOf p x).toNat = 0 :=
    Finset.sum_eq_zero fun p hp => by rw [dotOf_outside x (.inl (Finset.mem_range.mp hp))]; rfl
  have hbelow : ∑ p ∈ Finset.range (128 - s.padtop - s.h), (s.dotOf (s.padtop + s.h + p) x).toNat = 0 :=
    Finset.sum_eq_zero fun p _ => by rw [dotOf_outside x (.inr (Nat.le_add_right _ p))]; rfl
  rw [hrows, Finset.sum_range_add, Finset.sum_range_add, habove, hbelow, Nat.zero_add, Nat.add_zero]
  exact Finset.sum_congr rfl fun r hr => by rw [dotOf_image s x (Finset.mem_range.mp hr)]

/-- Settles O50: the bits of PM, summed by columns, are the dots of each column, and these its pixels (`sum_dotOf`). -/
theorem onePixelOneBit : Obligations.OnePixelOneBit := by
  intro s t hlive hw hgeo hexec
  simp only [countP_range_eq_sum]
  have hbits : ∀ x ∈ Finset.range s.w, ∑ g ∈ Finset.range 16, ∑ k ∈ Finset.range 8,
      (mbit (t.pmByte (16 * x + g)) k).toNat = ∑ p ∈ Finset.range 128, (s.dotOf p x).toNat := by
    intro x hx
    rw [show 128 = 8 * 16 from rfl, sum_range_mul 8 16]
    refine Finset.sum_congr rfl fun g hg => Finset.sum_congr rfl fun k hk => ?_
    rw [Finset.mem_range] at hx hg hk
    have hdot := dot_of_xpose hlive hw hexec hx (show 8 * g + k < 128 by omega)
    have hbyte : x * 16 + (8 * g + k) / 8 = 16 * x + g := by omega
    have hbit : (8 * g + k) % 8 = k := by omega
    rw [← hdot, hbyte, hbit]
  calc ∑ a ∈ Finset.range (16 * s.w), ∑ k ∈ Finset.range 8, (mbit (t.pmByte a) k).toNat
      = ∑ x ∈ Finset.range s.w, ∑ p ∈ Finset.range 128, (s.dotOf p x).toNat :=
        (sum_range_mul 16 s.w _).trans (Finset.sum_congr rfl hbits)
    _ = ∑ x ∈ Finset.range s.w, ∑ r ∈ Finset.range s.h, (s.pixel r x).toNat :=
        Finset.sum_congr rfl fun x _ => sum_dotOf hgeo x
    _ = ∑ r ∈ Finset.range s.h, ∑ x ∈ Finset.range s.w, (s.pixel r x).toNat := Finset.sum_comm

/-! ### The all-black square (R116) -/

/-- Settles O51: the image's sixteen rows are Pattern rows 56 to 71, the eight of byte 7 and the eight of byte 8. -/
theorem allBlackSquare : Obligations.AllBlackSquare := by
  intro s t hlive hw hh hpad hstride hblack hexec x hx g hg
  have hpixel : ∀ r < 16, s.pixel r x = true := by
    intro r hr
    rw [State.pixel, hstride, hblack _ (by omega)]
    have hones : ∀ k < 8, mbit 0xFF k = true := by decide
    exact hones _ (by omega)
  refine byte_ext fun k hk => ?_
  have hdot := dot_of_xpose hlive (by omega) hexec (show x < s.w by omega) (show 8 * g + k < 128 by omega)
  have hbyte : x * 16 + (8 * g + k) / 8 = 16 * x + g := by omega
  have hbit : (8 * g + k) % 8 = k := by omega
  rw [hbyte, hbit] at hdot
  rw [hdot]
  split
  next hin =>
    have hones : mbit 0xFF k = true := by interval_cases k <;> rfl
    rw [hones]
    exact (dotOf_iff s _ x).mpr ⟨by omega, hpixel _ (by omega)⟩
  next hout =>
    have hzero : mbit 0x00 k = false := by interval_cases k <;> rfl
    rw [hzero, dotOf_outside x (by omega)]

end Sys2Proof.Machine

/-! The schedule of a raster transfer (43_raster_chunker.md R125, R127), exchange by exchange: what is left of it from each
exchange on (`Continues`), what it carries, and how many exchanges it has. -/

namespace Sys2Proof.Machine

open Sys2Proof

/-! ### The schedule from an exchange on -/

/-- The payload length of the block at PM address `pos` of `n` (R121). -/
def blockLenAt (n pos : Nat) : Nat := min 60 (min (8192 - pos % 8192) (n - pos))

/-- Which exchange follows the block that ends at PM address `pos` of `n` (R122, R123). -/
def exchangeAfter (n pos : Nat) : NextExchange :=
  if pos = n then .rasterEnd else if pos % 8192 = 0 then .printPage else .block

/-- A transfer of `n` bytes with `pos` of them acknowledged, whose next exchange is `x`, has these exchanges to go. -/
inductive Continues (n : Nat) : NextExchange → Nat → List Item → Prop
  | block {pos : Nat} {rest : List Item} (hpos : pos < n)
      (hrest : Continues n (exchangeAfter n (pos + blockLenAt n pos)) (pos + blockLenAt n pos) rest) :
      Continues n .block pos (.block pos (blockLenAt n pos) :: rest)
  | rasterEnd {rest : List Item} (hrest : Continues n .printPage n rest) :
      Continues n .rasterEnd n (.rasterEnd :: rest)
  | newPage {pos : Nat} {rest : List Item} (hpos : pos < n) (hpage : pos % 8192 = 0) (hrest : Continues n .block pos rest) :
      Continues n .printPage pos (.printPage :: rest)
  | last : Continues n .printPage n [.printPage]

theorem blockLenAt_bounds {n pos : Nat} (h : pos < n) :
    1 ≤ blockLenAt n pos ∧ blockLenAt n pos ≤ 60 ∧ pos % 8192 + blockLenAt n pos ≤ 8192 ∧ pos + blockLenAt n pos ≤ n := by
  unfold blockLenAt
  omega

/-! ### The pages of the schedule are such a sequence -/

theorem pageBlocks_of_le {a len : Nat} (h1 : 1 ≤ len) (h2 : len ≤ 60) : pageBlocks a len = [.block a len] := by
  by_cases h : len = 60
  · subst h; rfl
  · have hdiv : len / 60 = 0 := by omega
    have hmod : len % 60 = len := by omega
    have hne : len ≠ 0 := by omega
    simp [pageBlocks, hdiv, hmod, hne]

theorem pageBlocks_of_gt {a len : Nat} (h : 60 < len) :
    pageBlocks a len = .block a 60 :: pageBlocks (a + 60) (len - 60) := by
  obtain ⟨m, rfl⟩ : ∃ m, len = m + 60 := ⟨len - 60, by omega⟩
  have hshift : ∀ i, a + 60 * (i + 1) = a + 60 + 60 * i := fun i => by omega
  simp [pageBlocks, List.range_succ_eq_map, Function.comp_def, hshift]

/-- The blocks of a page, or of the rest of one, that ends at the page's end or the transfer's. -/
theorem continues_pageBlocks {n a len : Nat} {rest : List Item} (hlen : 1 ≤ len) (hpage : a % 8192 + len ≤ 8192)
    (hn : a + len ≤ n) (hend : a + len = n ∨ (a + len) % 8192 = 0)
    (hrest : Continues n (exchangeAfter n (a + len)) (a + len) rest) :
    Continues n .block a (pageBlocks a len ++ rest) := by
  induction len using Nat.strong_induction_on generalizing a with
  | _ len ih =>
    by_cases hshort : len ≤ 60
    · have hblock : blockLenAt n a = len := by unfold blockLenAt; omega
      rw [pageBlocks_of_le hlen hshort]
      have hcont := Continues.block (n := n) (pos := a) (rest := rest) (by omega) (by rwa [hblock])
      rwa [hblock] at hcont
    · have hblock : blockLenAt n a = 60 := by unfold blockLenAt; omega
      have hnext : exchangeAfter n (a + 60) = .block := by
        rw [exchangeAfter, if_neg (by omega), if_neg (by omega)]
      have hsum : a + 60 + (len - 60) = a + len := by omega
      rw [pageBlocks_of_gt (by omega)]
      have htail := ih (len - 60) (by omega) (a := a + 60) (by omega) (by omega) (by omega) (by rwa [hsum])
        (by rwa [hsum])
      have hcont := Continues.block (n := n) (pos := a) (by omega) (by rwa [hblock, hnext])
      rwa [hblock] at hcont

/-- The last `k` pages of the schedule, from page `j` on. -/
theorem continues_pages {n j k : Nat} (hk : 1 ≤ k) (hjk : j + k = pageCount n) :
    Continues n .block (8192 * j) ((List.range' j k).flatMap (pageItems n)) := by
  unfold pageCount at hjk
  induction k generalizing j with
  | zero => omega
  | succ k ih =>
    have hlast : pageItems n j =
        pageBlocks (8192 * j) (pageLength n j) ++ ((if k = 0 then [.rasterEnd] else []) ++ [.printPage]) := by
      have hiff : j + 1 = pageCount n ↔ k = 0 := by unfold pageCount; omega
      simp only [pageItems, hiff, List.append_assoc]
    rw [List.range'_succ, List.flatMap_cons, hlast, List.append_assoc]
    refine continues_pageBlocks (by unfold pageLength; omega) (by unfold pageLength; omega)
      (by unfold pageLength; omega) (by unfold pageLength; omega) ?_
    by_cases h0 : k = 0
    · subst h0
      have hend : 8192 * j + pageLength n j = n := by unfold pageLength; omega
      rw [hend, exchangeAfter, if_pos rfl]
      exact .rasterEnd .last
    · have hend : 8192 * j + pageLength n j = 8192 * (j + 1) := by unfold pageLength; omega
      rw [hend, exchangeAfter, if_neg (by omega), if_pos (by omega), if_neg h0]
      exact .newPage (by omega) (by omega) (ih (by omega) (by omega))

/-- The schedule of the spec is what a transfer has to go when it begins. -/
theorem continues_rasterSchedule {n : Nat} (hn : 1 ≤ n) : Continues n .block 0 (rasterSchedule n) := by
  rw [rasterSchedule, List.range_eq_range']
  exact continues_pages (j := 0) (by unfold pageCount; omega) (Nat.zero_add _)

/-! ### What the schedule carries (R127) -/

theorem addresses_of_continues {n pos : Nat} {x : NextExchange} {items : List Item} (h : Continues n x pos items) :
    items.flatMap Claims.blockAddresses = List.range' pos (n - pos) := by
  induction h with
  | @block pos rest hpos hrest ih =>
    obtain ⟨-, -, -, hle⟩ := blockLenAt_bounds hpos
    have hsplit : n - pos = blockLenAt n pos + (n - (pos + blockLenAt n pos)) := by omega
    rw [List.flatMap_cons, ih, hsplit]
    exact List.range'_append_1
  | rasterEnd hrest ih => exact ih
  | newPage hpos hpage hrest ih => exact ih
  | last => simp [Claims.blockAddresses]

theorem blockBounds_of_continues {n pos : Nat} {x : NextExchange} {items : List Item} (h : Continues n x pos items)
    {a len : Nat} (hmem : .block a len ∈ items) : 1 ≤ len ∧ len ≤ 60 ∧ a % 8192 + len ≤ 8192 := by
  induction h with
  | block hpos hrest ih =>
    obtain heq | hmem := List.mem_cons.mp hmem
    · cases heq
      obtain ⟨h1, h60, hpage, -⟩ := blockLenAt_bounds hpos
      exact ⟨h1, h60, hpage⟩
    · exact ih hmem
  | rasterEnd hrest ih | newPage hpos hpage hrest ih =>
    obtain heq | hmem := List.mem_cons.mp hmem
    · cases heq
    · exact ih hmem
  | last => simp at hmem

theorem rasterSchedule_zero : rasterSchedule 0 = [] := rfl

/-- Settles O53: `Continues` from the beginning, and nothing to do for an empty Pattern. -/
theorem scheduleCoversThePattern : Obligations.ScheduleCoversThePattern := by
  intro n
  rcases Nat.eq_zero_or_pos n with rfl | hn
  · simp [rasterSchedule_zero]
  · have h := continues_rasterSchedule hn
    refine ⟨?_, fun a len hmem => blockBounds_of_continues h hmem⟩
    rw [addresses_of_continues h, Nat.sub_zero, List.range_eq_range']

/-! ### How many exchanges it has (R125) -/

/-- The number of bytes of an exchange's packet (R98 to R100). -/
def Item.packetSize : Item → Nat
  | .block _ _ => 64
  | .rasterEnd => 16
  | .printPage => 1

/-- How many of these exchanges send a packet of `size` bytes. -/
def sizeCount (size : Nat) (items : List Item) : Nat := items.countP fun i => i.packetSize == size

theorem sizeCount_append (size : Nat) (l1 l2 : List Item) :
    sizeCount size (l1 ++ l2) = sizeCount size l1 + sizeCount size l2 := List.countP_append

theorem sum_packetSize (items : List Item) :
    (items.map Item.packetSize).sum = 64 * sizeCount 64 items + 16 * sizeCount 16 items + sizeCount 1 items := by
  induction items with
  | nil => rfl
  | cons i items ih =>
    simp only [List.map_cons, List.sum_cons, ih, sizeCount, List.countP_cons]
    cases i <;> simp only [Item.packetSize] <;> simp <;> omega

theorem packetSize_of_mem_pageBlocks {a len : Nat} {i : Item} (h : i ∈ pageBlocks a len) : i.packetSize = 64 := by
  obtain hmem | hmem := List.mem_append.mp h
  · obtain ⟨j, -, rfl⟩ := List.mem_map.mp hmem
    rfl
  · split_ifs at hmem
    · cases hmem
    · obtain rfl := List.mem_singleton.mp hmem
      rfl

theorem length_pageBlocks (a len : Nat) : (pageBlocks a len).length = (len + 59) / 60 := by
  simp only [pageBlocks, List.length_append, List.length_map, List.length_range]
  split_ifs <;> simp only [List.length_nil, List.length_singleton] <;> omega

theorem sizeCount_pageBlocks_same (a len : Nat) : sizeCount 64 (pageBlocks a len) = (len + 59) / 60 := by
  rw [← length_pageBlocks a len, sizeCount, List.countP_eq_length]
  exact fun i hi => by rw [packetSize_of_mem_pageBlocks hi, beq_self_eq_true]

theorem sizeCount_pageBlocks_other {size : Nat} (h : size ≠ 64) (a len : Nat) : sizeCount size (pageBlocks a len) = 0 := by
  rw [sizeCount, List.countP_eq_zero]
  exact fun i hi => by simpa [packetSize_of_mem_pageBlocks hi] using h.symm

/-- The packets of one page, by size. -/
theorem sizeCount_pageItems (n j : Nat) :
    sizeCount 64 (pageItems n j) = (pageLength n j + 59) / 60 ∧
      sizeCount 16 (pageItems n j) = (if j + 1 = pageCount n then 1 else 0) ∧ sizeCount 1 (pageItems n j) = 1 := by
  have h16 := sizeCount_pageBlocks_other (size := 16) (by decide) (8192 * j) (pageLength n j)
  have h1 := sizeCount_pageBlocks_other (size := 1) (by decide) (8192 * j) (pageLength n j)
  simp only [pageItems, sizeCount_append, sizeCount_pageBlocks_same, h16, h1]
  split_ifs <;> exact ⟨rfl, rfl, rfl⟩

/-- The packets of the first `k` pages, by size. -/
theorem sizeCount_pages {n k : Nat} (hk : k ≤ pageCount n) :
    sizeCount 64 ((List.range k).flatMap (pageItems n)) =
        137 * (min n (8192 * k) / 8192) + (min n (8192 * k) % 8192 + 59) / 60 ∧
      sizeCount 16 ((List.range k).flatMap (pageItems n)) = (if k = pageCount n ∧ 0 < n then 1 else 0) ∧
      sizeCount 1 ((List.range k).flatMap (pageItems n)) = k := by
  unfold pageCount at *
  induction k with
  | zero =>
    refine ⟨by simp [sizeCount], ?_, rfl⟩
    rw [if_neg (by omega)]
    rfl
  | succ k ih =>
    obtain ⟨h64, h16, h1⟩ := ih (by omega)
    obtain ⟨p64, p16, p1⟩ := sizeCount_pageItems n k
    unfold pageCount at p16
    unfold pageLength at p64
    simp only [List.range_succ, List.flatMap_append, List.flatMap_singleton, sizeCount_append, h64, h16, h1, p64, p16, p1]
    refine ⟨by omega, ?_, trivial⟩
    split_ifs <;> omega

/-- The packets of the schedule, by size. -/
theorem sizeCount_rasterSchedule {n : Nat} (hn : 1 ≤ n) :
    sizeCount 64 (rasterSchedule n) = 137 * (n / 8192) + (n % 8192 + 59) / 60 ∧
      sizeCount 16 (rasterSchedule n) = 1 ∧ sizeCount 1 (rasterSchedule n) = (n + 8191) / 8192 := by
  obtain ⟨h64, h16, h1⟩ := sizeCount_pages (n := n) le_rfl
  have hall : min n (8192 * pageCount n) = n := by unfold pageCount; omega
  rw [hall] at h64
  rw [if_pos ⟨rfl, hn⟩] at h16
  exact ⟨h64, h16, h1⟩

end Sys2Proof.Machine

/-! A transfer along its schedule (43_raster_chunker.md R119 to R127): where each exchange, acknowledged or not, leaves the
block, and so where a transfer ends for every behaviour of the link. -/

namespace Sys2Proof.Machine

open Sys2Proof

/-! ### One exchange that expects ACK -/

/-- The calls of an exchange that is not acknowledged, and the result it ends the operation with; none when it hangs. -/
inductive Unacked (packet : List Byte) : List LinkEvent → Option Result → Prop
  | sendFault {a : TxAnswer} (h : Claims.isFault (.tx packet a)) : Unacked packet [.tx packet a] (some .fatal)
  | sendHang : Unacked packet [.tx packet .silent] none
  | receiveFault : Unacked packet [.tx packet (.done packet.length), .rx .error] (some .fatal)
  | receiveHang : Unacked packet [.tx packet (.done packet.length), .rx .silent] none
  | mismatch {b : List Byte} (hb : b ≠ [0x06]) :
      Unacked packet [.tx packet (.done packet.length), .rx (.data b)] (some (.mismatch b))

/-- The link takes all of `packet` and then delivers ACK. -/
def State.AckComing (s : State) (packet : List Byte) : Prop :=
  s.txAnswer packet = .done packet.length ∧ s.rxAnswer = .data [0x06]

/-- The block after it sent `packet` and received ACK. -/
def State.acked (s : State) (packet : List Byte) : State := (s.linkTx packet).linkRx.storeResponse [0x06]

@[simp] theorem acked_pos (s : State) (packet : List Byte) : (s.acked packet).pos = s.pos := rfl
@[simp] theorem acked_n (s : State) (packet : List Byte) : (s.acked packet).n = s.n := rfl

/-- The calls of a send written in full and of the receive after it. -/
theorem made_sendReceive {s : State} {packet : List Byte} (ha : s.txAnswer packet = .done packet.length) :
    Claims.Made s (s.linkTx packet).linkRx [.tx packet (.done packet.length), .rx s.rxAnswer] := by
  rw [Claims.Made, linkRx_trace, linkTx_trace, linkTx_rxAnswer, ha, List.append_assoc]
  rfl

/-- What the receive of such an exchange, its packet written in full, comes to. -/
theorem receiveAck_cases {s : State} {packet : List Byte} (ha : s.txAnswer packet = .done packet.length) :
    (s.AckComing packet ∧
        (receive (s.linkTx packet)).andThen (checkResponse .ack) = .done (.bytes [0x06]) (s.acked packet)) ∨
      (¬ s.AckComing packet ∧ ∃ u calls, (receive (s.linkTx packet)).andThen (checkResponse .ack) = .ended u ∧
        Claims.Made s u calls ∧ Unacked packet calls u.result) := by
  have hmade := made_sendReceive ha
  obtain ⟨b, hb, -, hr⟩ | ⟨hb, hr⟩ | ⟨hb, hr⟩ := receive_cases (s.linkTx packet) <;>
    rw [linkTx_rxAnswer] at hb <;> rw [hb] at hmade <;> rw [hr]
  case inr.inl => exact .inr ⟨fun h => absurd (hb.symm.trans h.2) nofun, _, _, rfl, hmade, .receiveFault⟩
  case inr.inr => exact .inr ⟨fun h => absurd (hb.symm.trans h.2) nofun, _, _, rfl, hmade, .receiveHang⟩
  case inl =>
    rw [andThen_done, checkResponse]
    by_cases hmatch : b = [0x06]
    · subst hmatch
      exact .inl ⟨⟨ha, hb⟩, rfl⟩
    · rw [if_neg ((responseMatches_ack_iff b).not.mpr hmatch)]
      refine .inr ⟨fun h => hmatch ?_, _, _, rfl, hmade, .mismatch hmatch⟩
      cases hb.symm.trans h.2
      rfl

/-- The exchange that sent `packet` from `s` ended the operation at `u`, not acknowledged. -/
structure ExchangeFailed (s : State) (packet : List Byte) (u : State) : Prop extends AfterSending s packet u where
  calls : ∃ calls, Claims.Made s u calls ∧ Unacked packet calls u.result

/-- What the exchange of a command that expects ACK comes to. -/
theorem exchangeCmd_ack_cases {c : Cmd} (params : List Byte) (hack : cmdExpect c = .ack) (s : State) :
    (s.AckComing (c.packet params) ∧ exchangeCmd c params s = .done (.bytes [0x06]) (s.acked (c.packet params))) ∨
      (¬ s.AckComing (c.packet params) ∧
        ∃ u, exchangeCmd c params s = .ended u ∧ ExchangeFailed s (c.packet params) u) := by
  have hexchange : exchangeCmd c params s = (transmit (c.packet params) s).andThen fun _ s1 =>
      (receive s1).andThen (checkResponse .ack) := by rw [exchangeCmd, hack]; rfl
  have hfailed : ∀ u, exchangeCmd c params s = .ended u → AfterSending s (c.packet params) u := fun u hu => by
    have hmeets := meets_exchangeCmd_afterSending c params s
    rwa [hu] at hmeets
  obtain ⟨ha, ht⟩ | ⟨ha, ht⟩ | ⟨ha, ht⟩ := transmit_cases (c.packet params) s <;> rw [ht] at hexchange
  case inr.inl =>
    refine .inr ⟨fun hgood => ?_, _, hexchange, hfailed _ hexchange, _, rfl, .sendFault ha⟩
    rw [hgood.1] at ha
    exact absurd ha (Nat.lt_irrefl _)
  case inr.inr =>
    refine .inr ⟨fun hgood => ?_, _, hexchange, hfailed _ hexchange, _, rfl, by rw [ha]; exact .sendHang⟩
    cases ha.symm.trans hgood.1
  case inl =>
    obtain ⟨hgood, hx⟩ | ⟨hbad, u, calls, hx, hmade, hun⟩ := receiveAck_cases ha
    · exact .inl ⟨hgood, hexchange.trans hx⟩
    · exact .inr ⟨hbad, u, hexchange.trans hx, hfailed u (hexchange.trans hx), calls, hmade, hun⟩

/-! ### After acknowledged exchanges -/

/-- `u` is `t` after the link's part of an acknowledged exchange that sent `packet`, of which `bytes` were payload. -/
structure ExchangeAcked (t : State) (packet : List Byte) (bytes : Nat) (u : State) : Prop where
  kept : Undisturbed t u
  trace : u.trace = t.trace ++ [.tx packet (.done packet.length), .rx (.data [0x06])]
  txAnswers : u.txAnswers = t.txAnswers.tail
  rxAnswers : u.rxAnswers = t.rxAnswers.tail
  rxlen : u.rxlen = 1
  rxbuf : u.rxbuf = t.rxbuf.pokeAll 0 [0x06]
  pos : u.pos = t.pos + bytes
  blklen : u.blklen = 0

theorem Undisturbed.refl (s : State) : Undisturbed s s :=
  ⟨rfl, rfl, rfl, rfl, rfl, rfl, rfl, rfl, rfl, rfl, rfl, rfl, rfl⟩

theorem Undisturbed.trans {s t u : State} (h : Undisturbed s t) (h' : Undisturbed t u) : Undisturbed s u :=
  ⟨h'.status.trans h.status, h'.waiting.trans h.waiting, h'.bm.trans h.bm, h'.pm.trans h.pm, h'.w.trans h.w,
    h'.hin.trans h.hin, h'.h.trans h.h, h'.padtop.trans h.padtop, h'.stride.trans h.stride, h'.n.trans h.n,
    h'.host.trans h.host, h'.epoch.trans h.epoch, h'.imageEpoch.trans h.imageEpoch⟩

theorem Undisturbed.acked {s t : State} (packet : List Byte) (h : Undisturbed s t) :
    Undisturbed s (t.acked packet) :=
  have htx : Undisturbed s (t.linkTx packet) := { h with }
  have hrx : Undisturbed s (t.linkTx packet).linkRx := { htx with }
  { hrx with }

theorem trace_acked {t : State} {packet : List Byte} (h : t.AckComing packet) :
    (t.acked packet).trace = t.trace ++ [.tx packet (.done packet.length), .rx (.data [0x06])] := by
  have hmade := made_sendReceive h.1
  rwa [h.2] at hmade

theorem exchangeAcked_of_coming {t : State} {packet : List Byte} (h : t.AckComing packet) (hblk : t.blklen = 0) :
    ExchangeAcked t packet 0 (t.acked packet) where
  kept := (Undisturbed.refl t).acked packet
  trace := trace_acked h
  txAnswers := rfl
  rxAnswers := rfl
  rxlen := rfl
  rxbuf := rfl
  pos := rfl
  blklen := hblk

theorem ExchangeAcked.endPage {t u : State} {packet : List Byte} {bytes : Nat} (h : ExchangeAcked t packet bytes u) :
    ExchangeAcked t packet bytes u.endPage := { h with kept := { h.kept with } }

/-- An acknowledged block counts its bytes and empties the block in hand. -/
theorem exchangeAcked_ackBlock {t : State} {packet : List Byte} (len : Nat) (h : t.AckComing packet) :
    ExchangeAcked t packet len ((t.nextBlock len).acked packet).ackBlock where
  kept :=
    have hbuild : Undisturbed t (t.nextBlock len) := { Undisturbed.refl t with }
    { hbuild.acked packet with }
  trace := trace_acked (t := t.nextBlock len) h
  txAnswers := rfl
  rxAnswers := rfl
  rxlen := rfl
  rxbuf := rfl
  pos := rfl
  blklen := rfl

/-- `t` is `s` after these exchanges of a transfer, each answered in full and with ACK. -/
structure Acked (s : State) (sent : List Item) (t : State) : Prop where
  kept : Undisturbed s t
  trace : t.trace = s.trace ++ sent.flatMap s.itemEvents
  txAnswers : t.txAnswers = s.txAnswers.drop sent.length
  rxAnswers : t.rxAnswers = s.rxAnswers.drop sent.length
  response : sent ≠ [] → t.rxlen = 1 ∧ t.rxByte 0 = 0x06
  rxTail : ∀ a, 1 ≤ a → t.rxByte a = s.rxByte a
  pos : t.pos = Claims.blockBytes sent
  blklen : t.blklen = 0

theorem acked_start (s : State) : Acked s [] s.startTransfer where
  kept := { Undisturbed.refl s with }
  trace := (List.append_nil _).symm
  txAnswers := rfl
  rxAnswers := rfl
  response := fun h => absurd rfl h
  rxTail := fun _ _ => rfl
  pos := rfl
  blklen := rfl

theorem blockBytes_append (l1 l2 : List Item) :
    Claims.blockBytes (l1 ++ l2) = Claims.blockBytes l1 + Claims.blockBytes l2 := by
  simp [Claims.blockBytes]

theorem rxByte_of_ack {t u : State} (hbuf : u.rxbuf = t.rxbuf.pokeAll 0 [0x06]) (hepoch : u.epoch = t.epoch) (a : Nat) :
    u.rxByte a = if a = 0 then 0x06 else t.rxByte a := by
  rw [State.rxByte, hbuf, hepoch]
  exact read_poke ..

theorem Acked.snoc {s t u : State} {sent : List Item} {item : Item} (h : Acked s sent t)
    (hu : ExchangeAcked t (s.itemPacket item) (Claims.blockBytes [item]) u) : Acked s (sent ++ [item]) u where
  kept := h.kept.trans hu.kept
  trace := by rw [hu.trace, h.trace, List.flatMap_append, List.append_assoc, List.flatMap_singleton]; rfl
  txAnswers := by rw [hu.txAnswers, h.txAnswers, List.tail_drop, List.length_append, List.length_singleton]
  rxAnswers := by rw [hu.rxAnswers, h.rxAnswers, List.tail_drop, List.length_append, List.length_singleton]
  response := fun _ => ⟨hu.rxlen, by rw [rxByte_of_ack hu.rxbuf hu.kept.epoch, if_pos rfl]⟩
  rxTail := fun a ha => by
    rw [rxByte_of_ack hu.rxbuf hu.kept.epoch, if_neg (by omega), h.rxTail a ha]
  pos := by rw [hu.pos, h.pos, blockBytes_append]
  blklen := hu.blklen

/-! ### The exchanges of the schedule -/

theorem pmBytes_of_kept {s t : State} (h : Undisturbed s t) (a len : Nat) : t.pmBytes a len = s.pmBytes a len := by
  unfold State.pmBytes State.pmByte
  rw [h.pm, h.imageEpoch]

theorem itemPacket_block (s : State) (a len : Nat) :
    Cmd.rasterblk.packet (s.pmBytes a len) = s.itemPacket (.block a len) := by
  rw [Cmd.packet, Cmd.template, pmBytes_length]
  rfl

theorem itemPacket_rasterEnd (s : State) : Cmd.rasterend.packet [] = s.itemPacket .rasterEnd := rfl

theorem itemPacket_printPage (s : State) : Cmd.printpage.packet [] = s.itemPacket .printPage := rfl

/-- PAGECNT when exchange `x` is next and `pos` bytes are acknowledged (R126). -/
def pageCountAt (x : NextExchange) (pos : Nat) : Nat :=
  match x with
  | .block => pos % 8192
  | .rasterEnd | .printPage => Claims.pageFill pos

/-- Before exchange `x` of a transfer begun at `s`: `sent` of its schedule are acknowledged and `items` are to go. -/
structure InTransfer (s : State) (sent items : List Item) (x : NextExchange) (t : State) : Prop extends
    Acked s sent t where
  schedule : rasterSchedule s.n = sent ++ items
  continues : Continues s.n x t.pos items
  pagecnt : t.pagecnt = pageCountAt x t.pos

theorem inTransfer_start {s : State} (hn : 1 ≤ s.n) :
    InTransfer s [] (rasterSchedule s.n) .block s.startTransfer where
  toAcked := acked_start s
  schedule := rfl
  continues := continues_rasterSchedule hn
  pagecnt := rfl

/-- The transfer begun at `s` is complete at `u` (R119, R126). -/
def TransferCompleted (s u : State) : Prop :=
  ∃ t, Acked s (rasterSchedule s.n) t ∧ t.pos = s.n ∧ t.pagecnt = 0 ∧ u = t.finish (.ok .none)

/-- The chunker's registers when the transfer stopped in this exchange (R126). -/
def StoppedIn (n : Nat) (item : Item) (u : State) : Prop :=
  match item with
  | .block a len => u.pos = a ∧ u.blklen = len ∧ u.pagecnt = a % 8192
  | .rasterEnd => u.pos = n ∧ u.blklen = 0 ∧ u.pagecnt = Claims.pageFill n
  | .printPage => u.blklen = 0 ∧ u.pagecnt = Claims.pageFill u.pos

/-- The transfer begun at `s` stopped at `u`, after the acknowledged exchanges `sent`, in the exchange `item`. -/
structure TransferStopped (s : State) (sent : List Item) (item : Item) (u : State) : Prop where
  calls : ∃ calls, Claims.Made s u (sent.flatMap s.itemEvents ++ calls) ∧ Unacked (s.itemPacket item) calls u.result
  pos : u.pos = Claims.blockBytes sent
  registers : StoppedIn s.n item u

/-- The next exchange of the transfer was acknowledged, and the transfer goes on or is complete. -/
def Advances (s : State) (sent items : List Item) : Phase NextExchange → Prop
  | .done y u => InTransfer s sent items y u
  | .ended u => items = [] ∧ TransferCompleted s u

theorem stopped_of_failed {s t u t' : State} {sent : List Item} {item : Item} (h : Acked s sent t)
    (htrace : t'.trace = t.trace) (hpos : t'.pos = t.pos) (hu : ExchangeFailed t' (s.itemPacket item) u)
    (hregisters : StoppedIn s.n item u) : TransferStopped s sent item u where
  calls := by
    obtain ⟨calls, hmade, hbad⟩ := hu.calls
    exact ⟨calls, by rw [Claims.Made, hmade, htrace, h.trace, List.append_assoc], hbad⟩
  pos := by rw [hu.pos, hpos, h.pos]
  registers := hregisters

theorem nextBlockLen_eq {t : State} (hpage : t.pagecnt = t.pos % 8192) : t.nextBlockLen = blockLenAt t.n t.pos := by
  rw [State.nextBlockLen, hpage]
  rfl

/-- PAGECNT after an acknowledged block, and what it says of the exchange that follows. -/
theorem pageCountAt_exchangeAfter {n pos : Nat} (h : pos < n) :
    pageCountAt (exchangeAfter n (pos + blockLenAt n pos)) (pos + blockLenAt n pos) = pos % 8192 + blockLenAt n pos := by
  obtain ⟨h1, -, hpage, -⟩ := blockLenAt_bounds h
  unfold exchangeAfter
  split_ifs
  all_goals simp only [pageCountAt, Claims.pageFill]
  · split_ifs <;> omega
  · rw [if_pos (by assumption)]
    omega
  · omega

theorem afterBlock_eq {u : State} {n pos : Nat} (h : pos < n) (hn : u.n = n) (hpos : u.pos = pos + blockLenAt n pos)
    (hpage : u.pagecnt = pos % 8192 + blockLenAt n pos) : u.afterBlock = exchangeAfter n (pos + blockLenAt n pos) := by
  obtain ⟨h1, -, hfit, -⟩ := blockLenAt_bounds h
  have hfull : pos % 8192 + blockLenAt n pos = 8192 ↔ (pos + blockLenAt n pos) % 8192 = 0 := by omega
  simp only [State.afterBlock, exchangeAfter, hn, hpos, hpage, Config.pageBytes, hfull]

section

variable {s t : State} {sent rest : List Item}

/-- What a Raster-block exchange of a transfer comes to. -/
theorem blockExchange_cases {len : Nat} (h : InTransfer s sent (.block t.pos len :: rest) .block t) (hpos : t.pos < s.n)
    (hlen : len = blockLenAt s.n t.pos)
    (hrest : Continues s.n (exchangeAfter s.n (t.pos + len)) (t.pos + len) rest) :
    (t.AckComing (s.itemPacket (.block t.pos len)) ∧ Advances s (sent ++ [.block t.pos len]) rest (blockExchange t)) ∨
      (¬ t.AckComing (s.itemPacket (.block t.pos len)) ∧
        ∃ u, blockExchange t = .ended u ∧ TransferStopped s sent (.block t.pos len) u) := by
  have hpage : t.pagecnt = t.pos % 8192 := h.pagecnt
  have hnext : t.nextBlockLen = len := by rw [nextBlockLen_eq hpage, h.kept.n, hlen]
  have hpacket : Cmd.rasterblk.packet (t.pmBytes t.pos len) = s.itemPacket (.block t.pos len) := by
    rw [pmBytes_of_kept h.kept, itemPacket_block]
  have hcases := exchangeCmd_ack_cases (c := .rasterblk) (t.pmBytes t.pos len) rfl (t.nextBlock len)
  rw [hpacket] at hcases
  rw [blockExchange, hnext]
  obtain ⟨hgood, hx⟩ | ⟨hbad, u, hx, hu⟩ := hcases
  · refine .inl ⟨hgood, ?_⟩
    rw [hx, andThen_done]
    have hacked : ExchangeAcked t (s.itemPacket (.block t.pos len)) (Claims.blockBytes [.block t.pos len]) _ :=
      exchangeAcked_ackBlock len hgood
    have hcount := pageCountAt_exchangeAfter hpos
    have hafter := afterBlock_eq hpos (hacked.kept.n.trans h.kept.n) (hacked.pos.trans (by rw [hlen]; rfl))
      (by rw [← hlen, ← hpage]; rfl)
    rw [← hlen] at hcount hafter
    exact {
      toAcked := h.toAcked.snoc hacked
      schedule := by rw [h.schedule, List.append_assoc]; rfl
      continues := by rw [hafter]; exact hrest
      pagecnt := by rw [hafter]; exact (congrArg (· + len) hpage).trans hcount.symm }
  · exact .inr ⟨hbad, u, by rw [hx, andThen_ended], stopped_of_failed (t' := t.nextBlock len) h.toAcked rfl rfl hu
      ⟨hu.pos, hu.blklen, hu.pagecnt.trans hpage⟩⟩

/-- What the Raster-end exchange of a transfer comes to. -/
theorem rasterEndExchange_cases (h : InTransfer s sent (.rasterEnd :: rest) .rasterEnd t) (hpos : t.pos = s.n)
    (hrest : Continues s.n .printPage t.pos rest) :
    (t.AckComing (s.itemPacket .rasterEnd) ∧ Advances s (sent ++ [.rasterEnd]) rest (rasterEndExchange t)) ∨
      (¬ t.AckComing (s.itemPacket .rasterEnd) ∧
        ∃ u, rasterEndExchange t = .ended u ∧ TransferStopped s sent .rasterEnd u) := by
  have hpage := h.pagecnt
  have hcases := exchangeCmd_ack_cases (c := .rasterend) [] rfl t
  rw [itemPacket_rasterEnd s] at hcases
  rw [rasterEndExchange]
  obtain ⟨hgood, hx⟩ | ⟨hbad, u, hx, hu⟩ := hcases <;> rw [hx]
  · have hacked := exchangeAcked_of_coming hgood h.blklen
    exact .inl ⟨hgood, {
      toAcked := h.toAcked.snoc hacked
      schedule := by rw [h.schedule, List.append_assoc]; rfl
      continues := hrest
      pagecnt := hpage }⟩
  · exact .inr ⟨hbad, u, rfl, stopped_of_failed h.toAcked rfl rfl hu
      ⟨hu.pos.trans hpos, hu.blklen.trans h.blklen, by rw [hu.pagecnt, hpage, hpos]; rfl⟩⟩

/-- What a Print-page exchange of a transfer comes to. -/
theorem printPageExchange_cases (h : InTransfer s sent (.printPage :: rest) .printPage t)
    (hrest : (t.pos < s.n ∧ t.pos % 8192 = 0 ∧ Continues s.n .block t.pos rest) ∨ (t.pos = s.n ∧ rest = [])) :
    (t.AckComing (s.itemPacket .printPage) ∧ Advances s (sent ++ [.printPage]) rest (printPageExchange t)) ∨
      (¬ t.AckComing (s.itemPacket .printPage) ∧
        ∃ u, printPageExchange t = .ended u ∧ TransferStopped s sent .printPage u) := by
  have hcases := exchangeCmd_ack_cases (c := .printpage) [] rfl t
  rw [itemPacket_printPage s] at hcases
  have hn : t.n = s.n := h.kept.n
  rw [printPageExchange]
  obtain ⟨hgood, hx⟩ | ⟨hbad, u, hx, hu⟩ := hcases <;> rw [hx]
  · refine .inl ⟨hgood, ?_⟩
    have hacked := h.toAcked.snoc (item := .printPage) (exchangeAcked_of_coming hgood h.blklen).endPage
    rw [andThen_done, acked_pos, acked_n]
    obtain ⟨hpos, hpage, hcont⟩ | ⟨hpos, rfl⟩ := hrest
    · rw [if_pos (by omega)]
      exact {
        toAcked := hacked
        schedule := by rw [h.schedule, List.append_assoc]; rfl
        continues := hcont
        pagecnt := hpage.symm }
    · rw [if_neg (by omega)]
      rw [← h.schedule] at hacked
      exact ⟨rfl, (t.acked (s.itemPacket .printPage)).endPage, hacked, hpos, rfl, rfl⟩
  · exact .inr ⟨hbad, u, rfl, stopped_of_failed h.toAcked rfl rfl hu
      ⟨hu.blklen.trans h.blklen, by rw [hu.pagecnt, h.pagecnt, hu.pos]; rfl⟩⟩

/-- What one exchange of a transfer comes to: it is acknowledged and the schedule advances, or the transfer stops in it. -/
theorem exchangeStep_cases {item : Item} {x : NextExchange} (h : InTransfer s sent (item :: rest) x t) :
    (t.AckComing (s.itemPacket item) ∧ Advances s (sent ++ [item]) rest (exchangeStep x t)) ∨
      (¬ t.AckComing (s.itemPacket item) ∧ ∃ u, exchangeStep x t = .ended u ∧ TransferStopped s sent item u) := by
  obtain ⟨pos, hpos⟩ : ∃ pos, pos = t.pos := ⟨_, rfl⟩
  have hcont := h.continues
  rw [← hpos] at hcont
  cases hcont with
  | block hlt hrest => subst hpos; exact blockExchange_cases h hlt rfl hrest
  | rasterEnd hrest => exact rasterEndExchange_cases h hpos.symm (hpos ▸ hrest)
  | newPage hlt hpage hrest => subst hpos; exact printPageExchange_cases h (.inl ⟨hlt, hpage, hrest⟩)
  | last => exact printPageExchange_cases h (.inr ⟨hpos.symm, rfl⟩)

end

end Sys2Proof.Machine

/-! Where a transfer ends (43_raster_chunker.md R119 to R127, 70_reset_and_hazards.md R155, R176): complete or stopped in one
exchange of its schedule, within the schedule's length; and what that says of its calls, registers and counts. -/

namespace Sys2Proof.Machine

open Sys2Proof

/-! ### A transfer runs to its end -/

/-- The transfer begun at `s` is over at `u`: complete, or stopped in an exchange of its schedule. -/
def TransferOver (s u : State) : Prop :=
  TransferCompleted s u ∨
    ∃ sent item rest, rasterSchedule s.n = sent ++ item :: rest ∧ TransferStopped s sent item u

theorem Continues.ne_nil {n pos : Nat} {x : NextExchange} {items : List Item} (h : Continues n x pos items) :
    items ≠ [] := by
  cases h <;> nofun

/-- Whatever the link answers, a transfer is over within the exchanges it has to go. -/
theorem exchangeSteps_over {s t : State} {sent items : List Item} {x : NextExchange} (h : InTransfer s sent items x t) :
    ∃ u, exchangeSteps items.length x t = .ended u ∧ TransferOver s u := by
  induction items generalizing sent x t with
  | nil => exact absurd rfl h.continues.ne_nil
  | cons item rest ih =>
    rw [List.length_cons, exchangeSteps]
    obtain ⟨-, hadv⟩ | ⟨-, u, hx, hstop⟩ := exchangeStep_cases h
    · cases hx : exchangeStep x t <;> rw [hx] at hadv
      case done y u => exact ih hadv
      case ended u => exact ⟨u, rfl, .inl hadv.2⟩
    · exact ⟨u, by rw [hx, andThen_ended], .inr ⟨sent, item, rest, h.schedule, hstop⟩⟩

/-- More steps change nothing once the transfer is over. -/
theorem exchangeSteps_mono {k j : Nat} {x : NextExchange} {s u : State} (h : exchangeSteps k x s = .ended u)
    (hkj : k ≤ j) : exchangeSteps j x s = .ended u := by
  induction k generalizing j x s with
  | zero => cases h
  | succ k ih =>
    obtain ⟨j, rfl⟩ : ∃ i, j = i + 1 := ⟨j - 1, by omega⟩
    rw [exchangeSteps] at h ⊢
    cases hx : exchangeStep x s <;> rw [hx] at h
    case done y t => exact ih h (by omega)
    case ended t => exact h

theorem rxferUpTo_congr {s : State} {j k : Nat}
    (h : 0 < s.n → exchangeSteps j .block s.startTransfer = exchangeSteps k .block s.startTransfer) :
    s.rxferUpTo j = s.rxferUpTo k := by
  rcases Nat.eq_zero_or_pos s.n with hn | hn
  · simp [State.rxferUpTo, State.unlessDead, hn]
  · simp [State.rxferUpTo, State.unlessDead, h hn]

/-- RXFER is as many exchange steps as its schedule has exchanges, or more. -/
theorem exec_rxfer_eq {s : State} {j : Nat} (hj : (rasterSchedule s.n).length ≤ j) :
    exec .rxfer s = .next (s.rxferUpTo j) := by
  refine congrArg Host.Outcome.next (rxferUpTo_congr fun hn => ?_)
  obtain ⟨u, hu, -⟩ := exchangeSteps_over (inTransfer_start hn)
  obtain ⟨t, ht⟩ := transfer_ends hn
  rw [exchangeSteps_mono hu hj, ht, ← exchangeSteps_mono ht (le_max_left _ j),
    exchangeSteps_mono hu (hj.trans (le_max_right _ _))]

/-- Settles O59, by `exec_rxfer_eq` and `inv_rxferUpTo`. -/
theorem rxferIsItsExchangeSteps : Obligations.RxferIsItsExchangeSteps :=
  ⟨fun _ _ => exec_rxfer_eq, fun _ j h hidle => inv_rxferUpTo j h hidle⟩

theorem rxferUpTo_live {s : State} (hlive : s.fatal = false) (hvalid : s.pvalid = true) (hn : 0 < s.n) (j : Nat) :
    s.rxferUpTo j = (exchangeSteps j .block s.startTransfer).state := by
  rw [State.rxferUpTo, unlessDead_live hlive, if_pos hvalid, if_pos hn]

theorem rxferUpTo_empty {s : State} (hlive : s.fatal = false) (hvalid : s.pvalid = true) (hn : s.n = 0) (j : Nat) :
    s.rxferUpTo j = s.startTransfer.finish (.ok .none) := by
  rw [State.rxferUpTo, unlessDead_live hlive, if_pos hvalid, if_neg (by omega), ok_eq_finish]

theorem transferCompleted_empty {s : State} (hn : s.n = 0) :
    TransferCompleted s (s.startTransfer.finish (.ok .none)) :=
  ⟨s.startTransfer, by rw [hn]; exact acked_start s, hn.symm, rfl, rfl⟩

/-- What a live RXFER with a Pattern comes to. -/
theorem transferOver_of_exec {s t : State} (hlive : s.fatal = false) (hvalid : s.pvalid = true)
    (h : exec .rxfer s = .next t) : TransferOver s t := by
  cases (exec_rxfer_eq le_rfl).symm.trans h
  rcases Nat.eq_zero_or_pos s.n with hn | hn
  · rw [rxferUpTo_empty hlive hvalid hn]
    exact .inl (transferCompleted_empty hn)
  · obtain ⟨u, hu, hover⟩ := exchangeSteps_over (inTransfer_start hn)
    rw [rxferUpTo_live hlive hvalid hn, hu]
    exact hover

/-! ### The packets sent -/

theorem sentPackets_itemEvents (s : State) (items : List Item) :
    sentPackets (items.flatMap s.itemEvents) = items.map s.itemPacket := by
  induction items with
  | nil => rfl
  | cons i items ih =>
    rw [List.flatMap_cons, sentPackets_append, ih]
    rfl

theorem sentPackets_unacked {packet : List Byte} {calls : List LinkEvent} {r : Option Result}
    (h : Unacked packet calls r) : sentPackets calls = [packet] := by
  cases h <;> rfl

theorem result_of_unacked {packet : List Byte} {calls : List LinkEvent} {r : Option Result} (h : Unacked packet calls r)
    (d : Data) : r ≠ some (.ok d) := by
  cases h <;> nofun

/-- A completed transfer made the calls of its whole schedule. -/
theorem TransferCompleted.made {s u : State} (h : TransferCompleted s u) :
    Claims.Made s u ((rasterSchedule s.n).flatMap s.itemEvents) := by
  obtain ⟨t, ht, -, -, rfl⟩ := h
  exact ht.trace

theorem TransferCompleted.result {s u : State} (h : TransferCompleted s u) : u.result = some (.ok .none) := by
  obtain ⟨t, -, -, -, rfl⟩ := h
  rfl

/-- The last call of an exchange that was not acknowledged is the one with the response that is not ACK. -/
theorem mismatch_of_unacked {packet b : List Byte} {calls : List LinkEvent} {r : Option Result} {j : Nat}
    (h : Unacked packet calls r) (hj : calls[j]? = some (.rx (.data b))) :
    j + 1 = calls.length ∧ r = some (.mismatch b) := by
  obtain _ | _ | j := j
  · cases h <;> cases hj
  · cases h <;> cases hj
    exact ⟨rfl, rfl⟩
  · cases h <;> cases hj

theorem ack_of_itemEvents {s : State} {items : List Item} {b : List Byte}
    (h : .rx (.data b) ∈ items.flatMap s.itemEvents) : b = [0x06] := by
  obtain ⟨i, -, hi⟩ := List.mem_flatMap.mp h
  simpa [State.itemEvents] using hi

/-- Settles O55: the packets of `TransferOver`; a response that is not ACK is in the calls of the exchange it stopped in; a
fault by `fatalFlagIsFatalResult`. -/
theorem rxferSendsAnInitialPiece : Obligations.RxferSendsAnInitialPiece := by
  intro s t hlive hvalid hexec
  obtain ⟨hfatal, faultCalls, hfaultMade, hfault, hlast⟩ := fatalFlagIsFatalResult .rxfer s t hlive hexec
  have hfaults : ∀ calls, Claims.Made s t calls → ∀ j e, calls[j]? = some e → Claims.isFault e →
      j + 1 = calls.length ∧ t.result = some .fatal ∧ t.fatal = true := by
    intro calls hmade j e hj he
    obtain rfl : calls = faultCalls := List.append_cancel_left (hmade.symm.trans hfaultMade)
    have hres := hfault.mpr ⟨e, List.mem_of_getElem? hj, he⟩
    exact ⟨hlast j e hj he, hres, hfatal.mpr hres⟩
  obtain hdone | ⟨sent, item, rest, hschedule, hstop⟩ := transferOver_of_exec hlive hvalid hexec
  · refine ⟨_, hdone.made, ⟨_, le_rfl, ?_, fun _ => rfl⟩, fun j b hj hb => ?_, hfaults _ hdone.made⟩
    · rw [sentPackets_itemEvents, List.take_length]
    · exact absurd (ack_of_itemEvents (List.mem_of_getElem? hj)) hb
  · obtain ⟨calls, hmade, hun⟩ := hstop.calls
    refine ⟨_, hmade, ⟨sent.length + 1, ?_, ?_, fun hok => absurd hok (result_of_unacked hun _)⟩,
      fun j b hj hb => ?_, hfaults _ hmade⟩
    · rw [hschedule, List.length_append, List.length_cons]
      omega
    · rw [sentPackets_append, sentPackets_itemEvents, sentPackets_unacked hun, hschedule,
        List.take_length_add_append, List.map_append]
      rfl
    · rw [List.getElem?_append] at hj
      split_ifs at hj with hlt
      · exact absurd (ack_of_itemEvents (List.mem_of_getElem? hj)) hb
      · obtain ⟨hlen, hres⟩ := mismatch_of_unacked hun hj
        rw [List.length_append]
        exact ⟨by omega, hres⟩

/-! ### The registers at the end (R126) -/

/-- Settles O56: complete by `TransferCompleted`, stopped by `TransferStopped`. -/
theorem registersAfterTransfer : Obligations.RegistersAfterTransfer := by
  intro s t hlive hvalid hexec
  obtain hdone | ⟨sent, item, rest, hschedule, hstop⟩ := transferOver_of_exec hlive hvalid hexec
  · have hres := hdone.result
    obtain ⟨u, hu, hpos, hpage, rfl⟩ := hdone
    refine ⟨fun _ => ⟨hpos, hu.blklen, hpage⟩, fun hbad => ?_⟩
    obtain hbad | ⟨b, hbad⟩ := hbad <;> cases hbad
  · obtain ⟨calls, hmade, hun⟩ := hstop.calls
    have hpos := hstop.pos
    have hregisters := hstop.registers
    refine ⟨fun hok => absurd hok (result_of_unacked hun _), fun _ => ⟨sent.length, item, ?_, ?_, ?_, ?_⟩⟩
    · rw [hschedule]; simp
    · rw [hmade, sentPackets_append, sentPackets_append, sentPackets_itemEvents, sentPackets_unacked hun, hschedule,
        List.take_length_add_append, List.map_append]
      rfl
    · rw [hpos, hschedule, List.take_left]
    · cases item with
      | block | rasterEnd | printPage => exact hregisters

/-! ### The counts (R125) -/

theorem length_itemPacket (s : State) {i : Item} (h : ∀ a len, i = .block a len → len ≤ 60) :
    (s.itemPacket i).length = i.packetSize := by
  cases i with
  | block a len =>
    have hlen := h a len rfl
    exact pad_length (by simp; omega)
  | rasterEnd | printPage => rfl

/-- Every packet of the schedule has the size its exchange has. -/
theorem length_packet_of_schedule (s : State) {n : Nat} {i : Item} (h : i ∈ rasterSchedule n) :
    (s.itemPacket i).length = i.packetSize :=
  length_itemPacket s fun a len hi => by
    obtain ⟨-, hbounds⟩ := scheduleCoversThePattern n
    exact (hbounds a len (hi ▸ h)).2.1

/-- The packets of the schedule that a test on their length picks out. -/
theorem countP_packets (s : State) (n size : Nat) {p : List Byte → Bool}
    (hp : ∀ i ∈ rasterSchedule n, p (s.itemPacket i) = (i.packetSize == size)) :
    ((rasterSchedule n).map s.itemPacket).countP p = sizeCount size (rasterSchedule n) := by
  rw [List.countP_map]
  exact List.countP_congr fun i hi => by rw [Function.comp, hp i hi]

theorem itemPacket_eq_printPage (s : State) {n : Nat} {i : Item} (h : i ∈ rasterSchedule n) :
    (s.itemPacket i == [0x0C]) = (i.packetSize == 1) := by
  have hlen := length_packet_of_schedule s h
  cases i with
  | printPage => rfl
  | block | rasterEnd =>
    refine (beq_eq_false_iff_ne.mpr fun heq => ?_).trans (Eq.symm rfl)
    rw [heq] at hlen
    cases hlen

/-- Settles O57: the calls are those of the schedule, whose packets `sizeCount_rasterSchedule` counts. -/
theorem completedTransferCounts : Obligations.CompletedTransferCounts := by
  intro s t hlive hvalid hn hexec hres
  obtain hdone | ⟨sent, item, rest, -, hstop⟩ := transferOver_of_exec hlive hvalid hexec
  case inr =>
    obtain ⟨calls, -, hun⟩ := hstop.calls
    exact absurd hres (result_of_unacked hun _)
  obtain ⟨h64, h16, h1⟩ := sizeCount_rasterSchedule hn
  have hlength := fun i (hi : i ∈ rasterSchedule s.n) => length_packet_of_schedule s hi
  refine ⟨_, hdone.made, ?_, ?_, ?_, ?_, ?_⟩
  all_goals rw [sentPackets_itemEvents]
  · rw [countP_packets s s.n 64 fun i hi => by rw [hlength i hi], h64]
  · rw [countP_packets s s.n 1 fun i hi => itemPacket_eq_printPage s hi, h1]
  · rw [countP_packets s s.n 16 fun i hi => by rw [hlength i hi], h16]
  · have hsizes : ((rasterSchedule s.n).map s.itemPacket).map List.length = (rasterSchedule s.n).map Item.packetSize := by
      rw [List.map_map]
      exact List.map_congr_left hlength
    rw [hsizes, sum_packetSize, h64, h16, h1]
  · have htwo : ∀ i ∈ rasterSchedule s.n, (s.itemEvents i).length = 2 := fun _ _ => rfl
    rw [List.length_flatMap, List.map_congr_left htwo, List.map_const', List.sum_replicate, List.length_map]
    exact Nat.mul_comm _ _

/-! ### A transfer whose first exchanges are answered well (R123, R155) -/

/-- The link answers the first `k` exchanges of the schedule in full and with ACK, and then as `trest` and `rrest` say. -/
structure AcksFirst (s : State) (k : Nat) (trest : List TxAnswer) (rrest : List RxAnswer) : Prop where
  tx : s.txAnswers = ((rasterSchedule s.n).take k).map (fun i => .done (s.itemPacket i).length) ++ trest
  rx : s.rxAnswers = ((rasterSchedule s.n).take k).map (fun _ => .data [0x06]) ++ rrest

section

variable {s t : State} {sent items : List Item} {trest : List TxAnswer} {rrest : List RxAnswer}

theorem ackComing_of_acksFirst {item : Item} {rest : List Item} {j : Nat}
    (hanswers : AcksFirst s (sent.length + (j + 1)) trest rrest) (h : Acked s sent t)
    (hschedule : rasterSchedule s.n = sent ++ item :: rest) : t.AckComing (s.itemPacket item) := by
  have hpiece : (rasterSchedule s.n).take (sent.length + (j + 1)) = sent ++ item :: rest.take j := by
    rw [hschedule, List.take_length_add_append, List.take_succ_cons]
  obtain ⟨htx, hrx⟩ := hanswers
  rw [hpiece, List.map_append, List.append_assoc] at htx hrx
  have htx' := h.txAnswers
  have hrx' := h.rxAnswers
  rw [htx, List.drop_left' (List.length_map _)] at htx'
  rw [hrx, List.drop_left' (List.length_map _)] at hrx'
  exact ⟨by rw [State.txAnswer, htx']; exact txAdmit_done_self _, by rw [State.rxAnswer, hrx']; rfl⟩

/-- So many exchange steps are acknowledged, and complete the transfer when they are all it has to go. -/
theorem exchangeSteps_acked {x : NextExchange} {j : Nat} (h : InTransfer s sent items x t) (hj : j ≤ items.length)
    (hanswers : AcksFirst s (sent.length + j) trest rrest) :
    (∃ y u, exchangeSteps j x t = .done y u ∧ InTransfer s (sent ++ items.take j) (items.drop j) y u) ∨
      (j = items.length ∧ ∃ u, exchangeSteps j x t = .ended u ∧ TransferCompleted s u) := by
  induction j generalizing sent items x t with
  | zero => exact .inl ⟨x, t, rfl, by rwa [List.take_zero, List.append_nil, List.drop_zero]⟩
  | succ j ih =>
    obtain _ | ⟨item, rest⟩ := items
    · cases hj
    have hgood := ackComing_of_acksFirst hanswers h.toAcked h.schedule
    obtain ⟨-, hadv⟩ | ⟨hbad, -⟩ := exchangeStep_cases h
    · rw [exchangeSteps]
      cases hx : exchangeStep x t <;> rw [hx] at hadv
      case done y u =>
        have hsent : (sent ++ [item]).length + j = sent.length + (j + 1) := by
          rw [List.length_append, List.length_singleton]; omega
        have hnext := ih hadv (Nat.le_of_succ_le_succ hj) (by rwa [hsent])
        rw [List.append_assoc] at hnext
        exact hnext.imp_right fun ⟨hlen, hu⟩ => ⟨congrArg (· + 1) hlen, hu⟩
      case ended u =>
        obtain ⟨rfl, hdone⟩ := hadv
        have hj0 : j = 0 := by simpa using hj
        exact .inr ⟨congrArg (· + 1) hj0, u, rfl, hdone⟩
    · exact absurd hgood hbad

/-- Where a transfer stands after its first `j` exchange steps, all acknowledged; only the last of them ends it. -/
theorem rxferUpTo_acked {j : Nat} (hlive : s.fatal = false) (hvalid : s.pvalid = true)
    (hj : j ≤ (rasterSchedule s.n).length) (hanswers : AcksFirst s j trest rrest) :
    ∃ t, Acked s ((rasterSchedule s.n).take j) t ∧
      ((j < (rasterSchedule s.n).length ∧ s.rxferUpTo j = t) ∨
        (t.pos = s.n ∧ t.pagecnt = 0 ∧ s.rxferUpTo j = t.finish (.ok .none))) := by
  rcases Nat.eq_zero_or_pos s.n with hn | hn
  · rw [rxferUpTo_empty hlive hvalid hn]
    rw [hn, rasterSchedule_zero, List.take_nil]
    exact ⟨_, acked_start s, .inr ⟨rfl, rfl, rfl⟩⟩
  · rw [rxferUpTo_live hlive hvalid hn]
    obtain ⟨y, u, hx, hu⟩ | ⟨rfl, u, hx, t, ht, hpos, hpage, rfl⟩ :=
      exchangeSteps_acked (inTransfer_start hn) hj (by rwa [List.length_nil, Nat.zero_add])
    · rw [hx]
      have hlt : j < (rasterSchedule s.n).length := by
        have hne := hu.continues.ne_nil
        rwa [Ne, List.drop_eq_nil_iff, not_le] at hne
      exact ⟨u, hu.toAcked, .inl ⟨hlt, rfl⟩⟩
    · rw [hx, List.take_length]
      exact ⟨t, ht, .inr ⟨hpos, hpage, rfl⟩⟩

/-- The answers left after the first `k` exchanges. -/
theorem answersLeft {k : Nat} (hanswers : AcksFirst s k trest rrest)
    (h : Acked s ((rasterSchedule s.n).take k) t) : t.txAnswers = trest ∧ t.rxAnswers = rrest := by
  obtain ⟨htx, hrx⟩ := hanswers
  have hdrop : ∀ {α : Type} (f : Item → α) (l : List α),
      (((rasterSchedule s.n).take k).map f ++ l).drop ((rasterSchedule s.n).take k).length = l :=
    fun f l => List.drop_left' (List.length_map f)
  rw [h.txAnswers, h.rxAnswers, htx, hrx, hdrop, hdrop]
  exact ⟨rfl, rfl⟩

/-- A state that is undisturbed differs in the chunker's registers, the buffers of the link and what the link changes. -/
theorem Undisturbed.eq_update (h : Undisturbed s t) :
    t = { s with
      pos := t.pos
      blklen := t.blklen
      pagecnt := t.pagecnt
      rxlen := t.rxlen
      blkbuf := t.blkbuf
      rxbuf := t.rxbuf
      txAnswers := t.txAnswers
      rxAnswers := t.rxAnswers
      trace := t.trace
      result := t.result } := by
  obtain ⟨hstatus, hwait, hbm, hpm, hw, hhin, hh, hpad, hstride, hn, hhost, hepoch, himage⟩ := h
  rw [← hstatus, ← hwait, ← hbm, ← hpm, ← hw, ← hhin, ← hh, ← hpad, ← hstride, ← hn, ← hhost, ← hepoch, ← himage]

end

/-- Settles O54: the whole schedule is acknowledged (`rxferUpTo_acked`), so the transfer is complete. -/
theorem rxferRunsTheSchedule : Obligations.RxferRunsTheSchedule := by
  intro s trest rrest hlive hvalid hn htx hrx
  have hanswers : AcksFirst s (rasterSchedule s.n).length trest rrest :=
    ⟨by rwa [List.take_length], by rwa [List.take_length]⟩
  have hne := (continues_rasterSchedule hn).ne_nil
  obtain ⟨t, ht, hend⟩ := rxferUpTo_acked hlive hvalid le_rfl hanswers
  obtain ⟨htxLeft, hrxLeft⟩ := answersLeft hanswers ht
  rw [List.take_length] at ht
  obtain ⟨hlt, -⟩ | ⟨hpos, hpage, hstate⟩ := hend
  · exact absurd hlt (Nat.lt_irrefl _)
  obtain ⟨hlen, hbyte⟩ := ht.response hne
  refine ⟨_, (exec_rxfer_eq le_rfl).trans (congrArg _ hstate), hbyte, ht.rxTail, ?_⟩
  have heq := ht.kept.eq_update
  rw [ht.blklen, ht.trace, hpos, hpage, hlen, htxLeft, hrxLeft] at heq
  rw [State.finish, heq]

/-- Settles O60: before the reset the first `j` exchanges are acknowledged (`rxferUpTo_acked`), and of all they did the
reset leaves the calls. -/
theorem resetBetweenExchanges : Obligations.ResetBetweenExchanges := by
  intro s r j rest trest rrest hidle hhost hr hlive hvalid hj htx hrx
  have hanswers : AcksFirst s.takeHost j trest rrest := ⟨htx, hrx⟩
  have hstep : step s = .next (s.takeHost.rxferUpTo j).applyReset := by
    simp only [step, hhost, hidle, Option.isSome_none, Bool.false_eq_true, if_false, resetDuring, hr, execUpTo, if_true,
      thenReset]
  obtain ⟨t, ht, hend⟩ := rxferUpTo_acked (s := s.takeHost) hlive hvalid hj hanswers
  obtain ⟨htxLeft, hrxLeft⟩ := answersLeft (s := s.takeHost) hanswers ht
  have hreset : (s.takeHost.rxferUpTo j).applyReset = t.applyReset := by
    obtain ⟨-, hstate⟩ | ⟨-, -, hstate⟩ := hend
    · rw [hstate]
    · rw [hstate]
      rfl
  rw [hstep, hreset, State.applyReset, ht.kept.host, ht.kept.epoch, ht.kept.imageEpoch, ht.trace, htxLeft, hrxLeft,
    takeHost_host, hhost]
  rfl

end Sys2Proof.Machine

/-! RXFER byte by byte and block by block (43_raster_chunker.md R120, R122): between two blocks the byte loop is where the
exchange steps are, and the bytes it accumulates are the frame the next exchange sends. -/

namespace Sys2Proof.Machine

open Sys2Proof

/-! ### The buffer: a frame written byte by byte -/

/-- BLKBUF with the bytes of a frame's header that never change (R120). -/
def headerPoked (m : Mem) : Mem := ((m.poke 0 0x02).poke 1 0xFE).poke 3 0x00

theorem wf_headerPoked {m : Mem} (h : m.wf) : (headerPoked m).wf := wf_poke _ _ (wf_poke _ _ (wf_poke _ _ h))

/-- The byte loop's header, payload and length byte are the whole frame. -/
theorem pokeAll_template {m : Mem} (h : m.wf) (params : List Byte) :
    ((headerPoked m).pokeAll 4 params).poke 2 (BitVec.ofNat 8 params.length) =
      m.pokeAll 0 (Cmd.rasterblk.template params) := by
  refine wf_ext (wf_poke _ _ (wf_pokeAll _ _ (wf_headerPoked h))) (wf_pokeAll _ _ h) fun x => ?_
  have hframe : m.pokeAll 0 (Cmd.rasterblk.template params) =
      ((((m.poke 0 0x02).poke 1 0xFE).poke 2 (BitVec.ofNat 8 params.length)).poke 3 0x00).pokeAll 4 params := rfl
  rw [hframe]
  simp only [headerPoked, peek_poke, peek_pokeAll]
  by_cases hx : x = 2
  · subst hx
    simp
  · simp [hx]

/-- A frame already stands there with its header. -/
theorem headerPoked_pokeAll_template {m : Mem} (h : m.wf) (params : List Byte) :
    headerPoked (m.pokeAll 0 (Cmd.rasterblk.template params)) = m.pokeAll 0 (Cmd.rasterblk.template params) := by
  have hwf := wf_pokeAll 0 (Cmd.rasterblk.template params) h
  refine wf_ext (wf_headerPoked hwf) hwf fun x => ?_
  simp only [headerPoked, peek_poke, peek_pokeAll, template_rasterblk_length]
  by_cases hx : x = 0 ∨ x = 1 ∨ x = 3
  · have hlong : ¬ 4 + params.length ≤ 1 ∧ ¬ 4 + params.length ≤ 3 := by omega
    obtain rfl | rfl | rfl := hx <;> simp [Cmd.template, hlong]
  · simp [not_or.mp hx, (not_or.mp (not_or.mp hx).2)]

/-- The block in hand, read back from BLKBUF. -/
theorem blkBytes_nextBlock (t : State) (len : Nat) :
    (t.nextBlock len).blkBytes (4 + len) = Cmd.rasterblk.template (t.pmBytes t.pos len) := by
  have hlen : (Cmd.rasterblk.template (t.pmBytes t.pos len)).length = 4 + len := by
    rw [template_rasterblk_length, pmBytes_length]
  refine List.ext_getElem (by simp [State.blkBytes, hlen]) fun a ha ha' => ?_
  have hbyte : (t.nextBlock len).blkByte a = (Cmd.rasterblk.template (t.pmBytes t.pos len)).getD a 0 := by
    rw [State.blkByte, State.nextBlock, buildBlock_blkbuf, read_pokeAll, if_pos ⟨Nat.zero_le a, by omega⟩, Nat.sub_zero]
  rw [List.getD_eq_getElem _ _ ha'] at hbyte
  rw [← hbyte]
  simp [State.blkBytes]

/-! ### Accumulating a block -/

/-- The state with the constant header bytes in BLKBUF. -/
def State.primed (s : State) : State := { s with blkbuf := headerPoked s.blkbuf }

@[simp] theorem primed_blklen (s : State) : s.primed.blklen = s.blklen := rfl
@[simp] theorem primed_pagecnt (s : State) : s.primed.pagecnt = s.pagecnt := rfl
@[simp] theorem primed_n (s : State) : s.primed.n = s.n := rfl

/-- `count` bytes of PM from address `i` on accumulated behind those in hand (R120). -/
def State.accumulated (s : State) (i count : Nat) : State :=
  { s with blkbuf := s.blkbuf.pokeAll (4 + s.blklen) (s.pmBytes i count), blklen := s.blklen + count }

theorem pmBytes_succ (s : State) (i count : Nat) : s.pmBytes i (count + 1) = s.pmByte i :: s.pmBytes (i + 1) count := by
  simp [State.pmBytes, List.range_succ_eq_map, Function.comp_def, Nat.add_assoc, Nat.add_comm 1]

theorem accumulated_one (s : State) (i : Nat) : s.accumulated i 1 = s.accumulate i := rfl

theorem accumulated_succ (s : State) (i count : Nat) :
    s.accumulated i (count + 1) = (s.accumulate i).accumulated (i + 1) count := by
  simp only [State.accumulated, pmBytes_succ, Mem.pokeAll]
  have hlen : s.blklen + (count + 1) = s.blklen + 1 + count := by omega
  rw [hlen]
  rfl

theorem mustFlush_accumulate {s : State} {i : Nat} :
    (s.accumulate i).mustFlush i = true ↔ s.blklen + 1 = 60 ∨ s.pagecnt + (s.blklen + 1) = 8192 ∨ i + 1 = s.n :=
  decide_eq_true_iff

/-- The byte loop up to the next flush. -/
theorem byteLoop_block {s : State} {i count : Nat} (left : Nat) (hcount : 1 ≤ count) (hmax : s.blklen + count ≤ 60)
    (hpage : s.pagecnt + s.blklen + count ≤ 8192) (hn : i + count ≤ s.n)
    (hflush : s.blklen + count = 60 ∨ s.pagecnt + s.blklen + count = 8192 ∨ i + count = s.n) :
    byteLoop (left + count) i s =
      (flushBlock (decide (i + count = s.n)) (s.accumulated i count)).finally fun _ u => byteLoop left (i + count) u := by
  induction count generalizing s i with
  | zero => omega
  | succ count ih =>
    rw [← Nat.add_assoc, byteLoop]
    rcases Nat.eq_zero_or_pos count with rfl | hpos
    · have hmust : (s.accumulate i).mustFlush i = true := mustFlush_accumulate.mpr (by omega)
      simp only [hmust, if_pos, accumulate_n, accumulated_one, Nat.zero_add, Nat.add_zero]
      rfl
    · have hmust : ¬ (s.accumulate i).mustFlush i = true := fun h => by
        have hearly := mustFlush_accumulate.mp h
        omega
      have hstep := ih (s := s.accumulate i) (i := i + 1) hpos
        (by rw [accumulate_blklen]; omega) (by rw [accumulate_pagecnt, accumulate_blklen]; omega)
        (by rw [accumulate_n]; omega) (by rw [accumulate_pagecnt, accumulate_blklen, accumulate_n]; omega)
      have hi : i + 1 + count = i + (count + 1) := by omega
      rw [accumulate_n, ← accumulated_succ, hi] at hstep
      simp only [if_neg hmust]
      exact hstep

/-! ### A flush (R120) -/

/-- What a flush does after the block is acknowledged. -/
def flushTail (last : Bool) (s : State) : Phase Data :=
  (if last then exchangeCmd .rasterend [] s else .done .none s).andThen fun _ t =>
    if t.pagecnt = 8192 ∨ last = true then
      (exchangeCmd .printpage [] t).andThen fun d u => .done d u.endPage
    else .done .none t

/-- With the block's length byte, the bytes accumulated are the next block. -/
theorem primed_accumulated {t : State} (hwf : t.blkbuf.wf) (hblk : t.blklen = 0) (len : Nat) :
    ({ t.primed.accumulated t.pos len with
      blkbuf := (t.primed.accumulated t.pos len).blkbuf.poke 2 (BitVec.ofNat 8 (t.primed.accumulated t.pos len).blklen) } :
        State) = t.nextBlock len := by
  have hframe := pokeAll_template hwf (t.pmBytes t.pos len)
  rw [pmBytes_length] at hframe
  rw [State.nextBlock, State.buildBlock, ← hframe]
  simp only [State.accumulated, State.primed, hblk, Nat.zero_add, Nat.add_zero]
  rfl

/-- A flush sends the next block, and then what follows it. -/
theorem flushBlock_eq {t : State} (hwf : t.blkbuf.wf) (hblk : t.blklen = 0) (last : Bool) (len : Nat) :
    flushBlock last (t.primed.accumulated t.pos len) =
      (exchangeCmd .rasterblk (t.pmBytes t.pos len) (t.nextBlock len)).andThen fun _ u => flushTail last u.ackBlock := by
  rw [flushBlock, primed_accumulated hwf hblk, exchangeCmd, ← blkBytes_nextBlock]
  rfl

@[simp] theorem acked_blklen (s : State) (packet : List Byte) : (s.acked packet).blklen = s.blklen := rfl

/-! ### What the byte loop has to go -/

/-- A Print page and what the byte loop does after it. -/
def byteRestOfPage (t : State) : State :=
  (exchangeCmd .printpage [] t).finally fun _ u => byteLoop (u.n - u.pos) u.pos u.endPage

/-- What the byte loop has to go where the transfer's next exchange is `x`. -/
def byteRest (x : NextExchange) (t : State) : State :=
  match x with
  | .block => byteLoop (t.n - t.pos) t.pos t.primed
  | .rasterEnd => (exchangeCmd .rasterend [] t).finally fun _ u => byteRestOfPage u
  | .printPage => byteRestOfPage t

/-- Between two exchanges of a transfer no byte is in hand, and BLKBUF has its header once a block was built. -/
structure BetweenFlushes (x : NextExchange) (t : State) : Prop where
  blklen : t.blklen = 0
  wf : t.blkbuf.wf
  header : x ≠ .block → headerPoked t.blkbuf = t.blkbuf

theorem BetweenFlushes.acked {x y : NextExchange} {t : State} (h : BetweenFlushes x t) (hx : x ≠ .block)
    (packet : List Byte) : BetweenFlushes y (t.acked packet) := ⟨h.blklen, h.wf, fun _ => h.header hx⟩

theorem BetweenFlushes.endPage {x : NextExchange} {t : State} (h : BetweenFlushes x t) : BetweenFlushes x t.endPage :=
  ⟨h.blklen, h.wf, h.header⟩

/-- The byte loop goes on after this phase as the transfer does. -/
def GoesOnAlike (p : Phase NextExchange) (last : State) : Prop :=
  p.Leads BetweenFlushes (fun _ => True) ∧ p.finally byteRest = last

theorem primed_eq_self {s : State} (h : headerPoked s.blkbuf = s.blkbuf) : s.primed = s := by rw [State.primed, h]

theorem byteRest_block {t : State} {n pos : Nat} (hn : t.n = n) (hpos : t.pos = pos)
    (hheader : headerPoked t.blkbuf = t.blkbuf) : byteRest .block t = byteLoop (n - pos) pos t := by
  rw [byteRest, primed_eq_self hheader, hn, hpos]

theorem byteRestOfPage_eq {t : State} {n pos : Nat} (hn : t.n = n) (hpos : t.pos = pos) :
    (((exchangeCmd .printpage [] t).andThen fun d u => Phase.done d u.endPage).finally
      fun _ u => byteLoop (n - pos) pos u) = byteRestOfPage t := by
  rw [byteRestOfPage]
  obtain ⟨-, hx⟩ | ⟨-, u, hx, -⟩ := exchangeCmd_ack_cases (c := .printpage) [] rfl t <;> rw [hx]
  · simp only [andThen_done, finally_done, acked_n, acked_pos, hn, hpos]
  · rfl

/-- After an acknowledged block the flush and the loop go on as the transfer does. -/
theorem flushTail_finally {v : State} {n pos : Nat} (hn : v.n = n) (hpos : v.pos = pos)
    (hheader : headerPoked v.blkbuf = v.blkbuf) :
    ((flushTail (decide (pos = n)) v).finally fun _ u => byteLoop (n - pos) pos u) = byteRest v.afterBlock v := by
  rw [flushTail, State.afterBlock, hn, hpos]
  by_cases hlast : pos = n
  · simp only [decide_eq_true hlast, if_true, or_true, if_pos hlast]
    rw [byteRest]
    obtain ⟨-, hx⟩ | ⟨-, w, hx, -⟩ := exchangeCmd_ack_cases (c := .rasterend) [] rfl v <;> rw [hx]
    · exact byteRestOfPage_eq hn hpos
    · rfl
  · simp only [decide_eq_false hlast, Bool.false_eq_true, if_false, andThen_done, or_false, if_neg hlast]
    by_cases hfull : v.pagecnt = 8192
    · rw [if_pos hfull, if_pos hfull]
      exact byteRestOfPage_eq hn hpos
    · rw [if_neg hfull, if_neg hfull, finally_done, byteRest_block hn hpos hheader]

theorem goesOnAlike_done {y : NextExchange} {u last : State} (h : BetweenFlushes y u) (hrest : byteRest y u = last) :
    GoesOnAlike (.done y u) last := ⟨h, hrest⟩

theorem goesOnAlike_ended (u : State) : GoesOnAlike (.ended u) u := ⟨trivial, rfl⟩

theorem blockExchange_byteRest {t : State} (h : BetweenFlushes .block t) (hpage : t.pagecnt < 8192)
    (hpos : t.pos < t.n) : GoesOnAlike (blockExchange t) (byteRest .block t) := by
  obtain ⟨len, hlen⟩ : ∃ len, len = t.nextBlockLen := ⟨_, rfl⟩
  obtain ⟨h1, hmax, hfit, hn, hflush⟩ : 1 ≤ len ∧ len ≤ 60 ∧ t.pagecnt + len ≤ 8192 ∧ t.pos + len ≤ t.n ∧
      (len = 60 ∨ t.pagecnt + len = 8192 ∨ t.pos + len = t.n) := by
    simp only [hlen, State.nextBlockLen, Config.blockMax, Config.pageBytes]
    omega
  have hleft : t.n - t.pos = t.n - (t.pos + len) + len := by omega
  have hloop := byteLoop_block (s := t.primed) (i := t.pos) (t.n - (t.pos + len)) h1
    (by rw [primed_blklen, h.blklen]; omega) (by rw [primed_blklen, primed_pagecnt, h.blklen]; omega) hn
    (by rw [primed_blklen, primed_pagecnt, primed_n, h.blklen]; omega)
  rw [primed_n, flushBlock_eq h.wf h.blklen] at hloop
  rw [blockExchange, ← hlen, byteRest, hleft, hloop]
  have hheader := headerPoked_pokeAll_template h.wf (t.pmBytes t.pos len)
  have hcases := exchangeCmd_ack_cases (c := .rasterblk) (t.pmBytes t.pos len) rfl (t.nextBlock len)
  obtain ⟨-, hx⟩ | ⟨-, u, hx, -⟩ := hcases <;> rw [hx]
  · rw [andThen_done, andThen_done]
    refine goesOnAlike_done ⟨ackBlock_blklen _, wf_pokeAll _ _ h.wf, fun _ => hheader⟩
      (flushTail_finally ?_ ?_ hheader).symm
    · rw [ackBlock_n, acked_n, State.nextBlock, buildBlock_n]
    · rw [ackBlock_pos, acked_pos, acked_blklen, State.nextBlock, buildBlock_pos, buildBlock_blklen]
  · exact goesOnAlike_ended u

theorem rasterEndExchange_byteRest {t : State} (h : BetweenFlushes .rasterEnd t) :
    GoesOnAlike (rasterEndExchange t) (byteRest .rasterEnd t) := by
  rw [rasterEndExchange, byteRest]
  obtain ⟨-, hx⟩ | ⟨-, u, hx, -⟩ := exchangeCmd_ack_cases (c := .rasterend) [] rfl t <;> rw [hx]
  · exact goesOnAlike_done (h.acked nofun _) rfl
  · exact goesOnAlike_ended u

theorem printPageExchange_byteRest {t : State} (h : BetweenFlushes .printPage t) :
    GoesOnAlike (printPageExchange t) (byteRest .printPage t) := by
  rw [printPageExchange, byteRest, byteRestOfPage]
  obtain ⟨-, hx⟩ | ⟨-, u, hx, -⟩ := exchangeCmd_ack_cases (c := .printpage) [] rfl t <;> rw [hx]
  · rw [andThen_done, finally_done, acked_n, acked_pos]
    split_ifs with hmore
    · refine goesOnAlike_done (h.acked nofun _).endPage (byteRest_block ?_ ?_ (h.header nofun))
      · rw [endPage_n, acked_n]
      · rw [endPage_pos, acked_pos]
    · have hnone : t.n - t.pos = 0 := by omega
      rw [hnone]
      exact goesOnAlike_ended _
  · exact goesOnAlike_ended u

/-- From any exchange of a transfer on, the byte loop ends where the exchange steps end. -/
theorem exchangeSteps_state {k : Nat} {x : NextExchange} {t : State} (hleft : StepsLeft k x t)
    (h : BetweenFlushes x t) : (exchangeSteps k x t).state = byteRest x t := by
  induction k generalizing x t with
  | zero => cases x <;> simp [StepsLeft] at hleft
  | succ k ih =>
    have hstep : GoesOnAlike (exchangeStep x t) (byteRest x t) := by
      cases x with
      | block =>
        obtain ⟨⟨hpage, hpos⟩, -⟩ := hleft
        exact blockExchange_byteRest h hpage hpos
      | rasterEnd => exact rasterEndExchange_byteRest h
      | printPage => exact printPageExchange_byteRest h
    have hnext := exchangeStep_stepsLeft hleft
    rw [exchangeSteps]
    obtain ⟨hbetween, hrest⟩ := hstep
    rw [← hrest]
    cases hx : exchangeStep x t <;> rw [hx] at hnext hbetween
    case done y u => exact ih hnext hbetween
    case ended u => rfl

/-- Settles O58: the byte loop begins where the transfer's first block does. -/
theorem rxferIsTheByteLoop : Obligations.RxferIsTheByteLoop := by
  intro s hlive hvalid hn hwf
  have hleft : StepsLeft (2 * s.n + 1) .block s.startTransfer := ⟨⟨by simp, hn⟩, le_rfl⟩
  refine congrArg Host.Outcome.next ?_
  rw [rxferUpTo_live hlive hvalid hn]
  exact exchangeSteps_state hleft ⟨rfl, hwf, fun h => absurd rfl h⟩

end Sys2Proof.Machine
